-- ==== Sys2Proof/Word.lean ====
section
/-! DEFINITION. The word types of the TSE register interface (R6, R7 00_scope.md; R61 20_memory.md). -/

namespace Sys2Proof

/-- One 32-bit register or bus word (R6). -/
abbrev Word := BitVec 32

/-- One byte lane of a bus word (R65). -/
abbrev Byte := BitVec 8

/-- An aperture offset: 9 bits (R61). -/
abbrev Offset := BitVec 9

/-- A symbol code, as the frame buffer, SYM_OUT.SYM and a quaternary digit hold it: 2 bits (R100, R135). -/
abbrev SymCode := BitVec 2

end Sys2Proof
end

