-- ==== Sys2Proof/Syntax.lean ====
section
/-! DEFINITION. The commands of the opcode table (R91 30_encoding.md), the fields of a command word (R90) and the names
under which the decoder rejects a word (R92 to R95, R99). -/

namespace Sys2Proof

/-- The 14 commands of R91, one constructor per row of the opcode table. A command word has no operand field: operands
come from registers (R97, R98). -/
inductive Instr where
  /-- NOP (R305). -/
  | nop
  /-- BCD (R132). -/
  | bcd
  /-- QUAT (R137). -/
  | quat
  /-- PARITY (R142). -/
  | parity
  /-- CHECKSUM (R143). -/
  | checksum
  /-- BUILD.JJY (R170). -/
  | buildJjy
  /-- BUILD.WWVB (R195). -/
  | buildWwvb
  /-- BUILD.BPC (R220). -/
  | buildBpc
  /-- MAP.JJY (R265). -/
  | mapJjy
  /-- MAP.WWVB (R266). -/
  | mapWwvb
  /-- MAP.BPC (R267). -/
  | mapBpc
  /-- POP (R270). -/
  | pop
  /-- REWIND (R275). -/
  | rewind
  /-- SOFT_RESET (R306). -/
  | softReset
  deriving DecidableEq, Repr

/-- The fields of the one command format (R90). -/
structure CmdFields where
  /-- OP, bits [3:0]. -/
  op : BitVec 4
  /-- STD, bits [5:4]. -/
  std : BitVec 2
  /-- RES, bits [31:6], reserved. -/
  res : BitVec 26
  deriving DecidableEq, Repr

/-- Why a word is no legal command. -/
inductive DecodeError where
  /-- A reserved bit of [31:6] is set (R92). -/
  | reservedBits
  /-- STD is not 0 for a command without a standard (R93). -/
  | strayStandard
  /-- BUILD or MAP with STD = 3 (R94). -/
  | reservedStandard
  /-- An unassigned OP (R95). -/
  | unassignedOp
  /-- Not four byte lanes: no such word can reach CMD (R99). -/
  | wrongLength
  deriving DecidableEq, Repr

end Sys2Proof
end

