-- ==== Sys2Proof/WellFormed.lean ====
section
/-! DEFINITION. The checks a command word's fields pass exactly when the word is one of the 14 legal commands
(R92 to R95 30_encoding.md). A decoded `Instr` has no operand, so nothing is left to check on it. -/

namespace Sys2Proof

/-- R92: the reserved bits are 0. -/
def CmdFields.reservedClear (f : CmdFields) : Bool := f.res == 0#26

/-- BUILD and MAP are the commands that take a standard (R90). -/
def CmdFields.takesStandard (f : CmdFields) : Bool := f.op == 0x8#4 || f.op == 0x9#4

/-- R93 and R94: STD is 0, 1 or 2 where the command takes a standard, and 0 where it takes none. -/
def CmdFields.standardAllowed (f : CmdFields) : Bool :=
  if f.takesStandard then f.std != 3#2 else f.std == 0#2

/-- R95: OP is none of the six unassigned codes. -/
def CmdFields.opAssigned (f : CmdFields) : Bool :=
  !([0x5#4, 0x6#4, 0x7#4, 0xC#4, 0xD#4, 0xE#4].contains f.op)

/-- The fields of a legal command (R92 to R95). -/
def CmdFields.wellFormed (f : CmdFields) : Bool :=
  f.reservedClear && f.standardAllowed && f.opAssigned

end Sys2Proof
end

