-- ==== Sys2Proof/Decode.lean ====
section
/-! DEFINITION. The decoder of CMD words, total on all of them and rejecting by name (R96 30_encoding.md), the encoder
(R91), and the byte lanes a word crosses the bus in (R65 20_memory.md). -/

namespace Sys2Proof

/-- Split a command word into its fields (R90). -/
def cmdFields (v : Word) : CmdFields where
  op := v.extractLsb' 0 4
  std := v.extractLsb' 4 2
  res := v.extractLsb' 6 26

/-- The BUILD command of a standard selector; the selector 3 names none (R94, R101). -/
def decodeBuild (std : BitVec 2) : Except DecodeError Instr :=
  if std = 0#2 then .ok .buildJjy
  else if std = 1#2 then .ok .buildWwvb
  else if std = 2#2 then .ok .buildBpc
  else .error .reservedStandard

/-- The MAP command of a standard selector; the selector 3 names none (R94, R101). -/
def decodeMap (std : BitVec 2) : Except DecodeError Instr :=
  if std = 0#2 then .ok .mapJjy
  else if std = 1#2 then .ok .mapWwvb
  else if std = 2#2 then .ok .mapBpc
  else .error .reservedStandard

/-- The commands without a standard, by OP; six codes are unassigned (R95, R96). -/
def decodePlain (op : BitVec 4) : Except DecodeError Instr :=
  if op = 0x0#4 then .ok .nop
  else if op = 0x1#4 then .ok .bcd
  else if op = 0x2#4 then .ok .quat
  else if op = 0x3#4 then .ok .parity
  else if op = 0x4#4 then .ok .checksum
  else if op = 0xA#4 then .ok .pop
  else if op = 0xB#4 then .ok .rewind
  else if op = 0xF#4 then .ok .softReset
  else .error .unassignedOp

/-- Decode the fields of a command word, with R96's checks in R96's order. -/
def decodeFields (f : CmdFields) : Except DecodeError Instr :=
  if f.res ≠ 0#26 then .error .reservedBits
  else if f.op = 0x8#4 then decodeBuild f.std
  else if f.op = 0x9#4 then decodeMap f.std
  else if f.std ≠ 0#2 then .error .strayStandard
  else decodePlain f.op

/-- Decode a word written to CMD (R96): a command, or ILLEGAL with the reason. -/
def decode (v : Word) : Except DecodeError Instr := decodeFields (cmdFields v)

/-- OP and STD of each command (R91). The reserved bits are 0. -/
def encodeFields : Instr → CmdFields
  | .nop => { op := 0x0#4, std := 0#2, res := 0#26 }
  | .bcd => { op := 0x1#4, std := 0#2, res := 0#26 }
  | .quat => { op := 0x2#4, std := 0#2, res := 0#26 }
  | .parity => { op := 0x3#4, std := 0#2, res := 0#26 }
  | .checksum => { op := 0x4#4, std := 0#2, res := 0#26 }
  | .buildJjy => { op := 0x8#4, std := 0#2, res := 0#26 }
  | .buildWwvb => { op := 0x8#4, std := 1#2, res := 0#26 }
  | .buildBpc => { op := 0x8#4, std := 2#2, res := 0#26 }
  | .mapJjy => { op := 0x9#4, std := 0#2, res := 0#26 }
  | .mapWwvb => { op := 0x9#4, std := 1#2, res := 0#26 }
  | .mapBpc => { op := 0x9#4, std := 2#2, res := 0#26 }
  | .pop => { op := 0xA#4, std := 0#2, res := 0#26 }
  | .rewind => { op := 0xB#4, std := 0#2, res := 0#26 }
  | .softReset => { op := 0xF#4, std := 0#2, res := 0#26 }

/-- Join the fields of a command word (R90). -/
def fieldsWord (f : CmdFields) : Word := f.res ++ f.std ++ f.op

/-- The CMD word of a command (R91). -/
def encode (i : Instr) : Word := fieldsWord (encodeFields i)

/-- Byte lane k carries bits [8k+7:8k]; the list holds the lanes by rising address (R65). -/
def lanesOfWord (v : Word) : List Byte :=
  [v.extractLsb' 0 8, v.extractLsb' 8 8, v.extractLsb' 16 8, v.extractLsb' 24 8]

/-- The word that four byte lanes carry (R65). -/
def wordOfLanes : List Byte → Option Word
  | [b0, b1, b2, b3] => some (b3 ++ b2 ++ b1 ++ b0)
  | _ => none

/-- Decode a command from its byte lanes, total on any list of bytes: a command is exactly one word (R90, R99). -/
def decodeBytes (bs : List Byte) : Except DecodeError Instr :=
  match wordOfLanes bs with
  | some v => decode v
  | none => .error .wrongLength

/-- The instruction the decoder reads from an instruction whose low `nbits` bits are those of `w` and whose other bits
are 0, laid out in byte lanes. A command is 32 bits long (R90), so more bits than that are no command. -/
def decodeTableWord (nbits w : Nat) : Option Instr :=
  if nbits ≤ 32 then (decodeBytes (lanesOfWord (BitVec.ofNat 32 (w % 2 ^ nbits)))).toOption else none

end Sys2Proof
end

