-- ==== Sys2Proof/Config.lean ====
section
/-! DEFINITION. What a platform or an implementation fixes, and the free values: constants without a body, so that no
proof can see what they are. -/

namespace Sys2Proof

/-- Which 512-byte block of the host's address space holds the aperture. OPEN (R6, D2, I13): no value (entry 5). -/
opaque Config.tseBaseBlock : Nat

/-- `TSE_BASE`, the base address of the aperture: a multiple of 512, otherwise open (R6, R61; entry 5). -/
def Config.tseBase : Nat := 512 * Config.tseBaseBlock

/-- `WWVB_LY_INDEX`, the frame index of the WWVB leap-year flag: 40 (R6, R196, D16).
DESIGN CHOICE (entry 6): the spec lets a model take it as a parameter in 34, 35, 38, 40; this one fixes the spec's 40.
Unsafe for a block built with another index. -/
def Config.wwvbLyIndex : Nat := 40

/-- The word each register would read as, by offset, after power is applied and before the first reset: unspecified
(R361, I1). DESIGN CHOICE (entry 7): free values. Safe. -/
opaque Config.powerUpWord : Offset → Word

/-- What `FRAME[i]` gives POP when RD_PTR is no index of the frame buffer, which no reset machine reaches (R7, R31).
A function of every register word (R39). DESIGN CHOICE (entry 8): a free value. Safe. -/
opaque Config.frameBeyond : List Word → SymCode

/-- The PULSE word POP delivers for a standard and symbol with no profile, which no reset machine reaches (R260).
A function of every register word (R39). DESIGN CHOICE (entry 8): a free value. Safe. -/
opaque Config.undefinedPulse : List Word → Word

end Sys2Proof
end

