-- ==== Sys2Proof/Machine/State.lean ====
section
/-! DEFINITION. The machine's state as plain data: the registers and the frame buffer of R21 (10_state.md), held by
field, and the model's own two fields for the host's side of the bus. -/

namespace Sys2Proof.Machine

/-- A carrier state of one pulse phase (R9, R260, R276). -/
inductive Carrier where
  /-- INERT, coded 0. -/
  | inert
  /-- BROADCAST, coded 1. -/
  | broadcast
  deriving DecidableEq, Repr

/-- The three time-code standards (R2, R101). -/
inductive Standard where
  /-- JJY, coded 0. -/
  | jjy
  /-- WWVB, coded 1. -/
  | wwvb
  /-- BPC, coded 2. -/
  | bpc
  deriving DecidableEq, Repr

/-- The four error classes of STATUS.ERR (R25, R320). -/
inductive ErrCode where
  /-- A BUILD outside its required phase (R321). -/
  | clockInvariantViolation
  /-- A numeric field exceeds its fixed width under the Fail policy (R322). -/
  | encodingOverflow
  /-- An illegal word or an operand out of range (R323). -/
  | illegalCommand
  /-- A POP with no symbol to deliver (R324). -/
  | frameExhausted
  deriving DecidableEq, Repr

/-- STATUS (R24): outcome of the last command. -/
structure StatusReg where
  /-- ERR, bits [2:0]. -/
  err : BitVec 3
  /-- TRUNC, bit [3]. -/
  trunc : Bool
  /-- ERR_INDEX, bits [15:8]. -/
  errIndex : BitVec 8
  deriving DecidableEq, Repr

/-- TS_DATE (R28). -/
structure TsDateReg where
  /-- YEAR, bits [15:0]. -/
  year : BitVec 16
  /-- MONTH, bits [23:16]. -/
  month : BitVec 8
  /-- DAY, bits [31:24]. -/
  day : BitVec 8
  deriving DecidableEq, Repr

/-- TS_TIME (R28). -/
structure TsTimeReg where
  /-- HOUR, bits [7:0]. -/
  hour : BitVec 8
  /-- MINUTE, bits [15:8]. -/
  minute : BitVec 8
  /-- SECOND, bits [23:16]. -/
  second : BitVec 8
  /-- WEEKDAY, bits [31:24]. -/
  weekday : BitVec 8
  deriving DecidableEq, Repr

/-- FRAME_INFO (R31): what the frame buffer holds, and the read pointer. -/
structure FrameInfoReg where
  /-- LEN, bits [7:0]. -/
  len : BitVec 8
  /-- FSTD, bits [9:8]. -/
  fstd : BitVec 2
  /-- VALID, bit [10]. -/
  valid : Bool
  /-- RD_PTR, bits [23:16]: the index of the next symbol POP delivers (R36). -/
  rdPtr : BitVec 8
  deriving DecidableEq, Repr

/-- SYM_OUT (R32): the symbol the last POP delivered. -/
structure SymOutReg where
  /-- SYM, bits [1:0]. -/
  sym : SymCode
  /-- INDEX, bits [15:8]. -/
  index : BitVec 8
  /-- STD, bits [17:16]. -/
  std : BitVec 2
  deriving DecidableEq, Repr

/-- PULSE (R33): the timing profile the last POP or MAP delivered. -/
structure PulseReg where
  /-- ACTIVE_MS, bits [9:0]: duration of the active phase in milliseconds. -/
  activeMs : BitVec 10
  /-- ACTIVE_ON, bit [12]: carrier state during the active phase. -/
  activeOn : Carrier
  /-- STEADY_ON, bit [13]: carrier state during the steady phase. -/
  steadyOn : Carrier
  deriving DecidableEq, Repr

/-- The architectural state of the TSE: exactly the registers of R21 and the frame buffer. CMD is not storage (R23).
Reserved bits have no storage (R22; entry 9). -/
structure Regs where
  /-- STATUS, 0x004 (R24). -/
  status : StatusReg
  /-- CONFIG.TRUNC_EN, 0x008 bit [0]: the overflow policy (R26). -/
  truncEn : Bool
  /-- ARG_N.N, 0x00C bits [15:0] (R27). -/
  argN : BitVec 16
  /-- ARG_W.W, 0x010 bits [4:0] (R27). -/
  argW : BitVec 5
  /-- RESULT.VALUE, 0x014 bits [15:0] (R30). -/
  result : BitVec 16
  /-- TS_DATE, 0x018 (R28). -/
  tsDate : TsDateReg
  /-- TS_TIME, 0x01C (R28). -/
  tsTime : TsTimeReg
  /-- TS_YDAY.YDAY, 0x020 bits [15:0] (R28). -/
  tsYday : BitVec 16
  /-- FRAME_INFO, 0x024 (R31). -/
  frameInfo : FrameInfoReg
  /-- SYM_OUT, 0x028 (R32). -/
  symOut : SymOutReg
  /-- PULSE, 0x02C (R33). -/
  pulse : PulseReg
  /-- The frame buffer, 60 entries of 2 bits; entry i is read at 0x100 + 4*i (R34, R38). -/
  frame : Vector SymCode 60
  deriving DecidableEq, Repr

/-- One thing the outside does to the block (R20, R60, R360). -/
inductive HostEvent where
  /-- A host read of `size` bytes at an offset (R64). -/
  | read (offset : Offset) (size : Nat)
  /-- A host write of `size` bytes at an offset. `data` is the word of a 32-bit write; a write of another size draws
  a bus error whatever it carries (R62). -/
  | write (offset : Offset) (size : Nat) (data : Word)
  /-- The platform applies the reset input, between accesses (R360). -/
  | reset
  deriving DecidableEq, Repr

/-- What the block answers on the bus (R64). -/
inductive BusResponse where
  /-- No access has been answered, or the last event was no access. -/
  | none
  /-- A write was accepted. -/
  | ok
  /-- A read was accepted and returns this word. -/
  | data (v : Word)
  /-- The access drew a bus error; no data (R64, R325). -/
  | busError
  deriving DecidableEq, Repr

/-- The spec's registers, and two fields of the model's own: the host's side of the bus. -/
structure State extends Regs where
  /-- The host events not yet served, oldest first. The model's own field (entry 1). -/
  pending : List HostEvent
  /-- What the last served event drew on the bus. The model's own field (entry 2). -/
  response : BusResponse
  deriving DecidableEq, Repr

/-- Why a step stops with a fault. No constructor: every command completes (R300), every access is answered (R64), the
block never halts of its own accord (R388) and has no trap (R332), so nothing raises one (entry 11). Safe. -/
inductive Fault
  deriving DecidableEq, Repr

/-- Why a step refuses. -/
inductive Refusal where
  /-- An instruction whose meaning is not written yet, by its mnemonic; raised by `exec`'s refused arms, of which none
  is left. Safe: the model stops. -/
  | notModelled (mnemonic : String)
  deriving DecidableEq, Repr

/-- Every register and every frame entry after reset: all 0 (R40, R360). -/
def Regs.reset : Regs where
  status := { err := 0, trunc := false, errIndex := 0 }
  truncEn := false
  argN := 0
  argW := 0
  result := 0
  tsDate := { year := 0, month := 0, day := 0 }
  tsTime := { hour := 0, minute := 0, second := 0, weekday := 0 }
  tsYday := 0
  frameInfo := { len := 0, fstd := 0, valid := false, rdPtr := 0 }
  symOut := { sym := 0, index := 0, std := 0 }
  pulse := { activeMs := 0, activeOn := .inert, steadyOn := .inert }
  frame := Vector.replicate 60 0

/-- The machine right after reset (R40, R360): every register 0, no frame held. No host event is waiting and none has
been answered (DESIGN CHOICE, entries 1 and 2: the model's own fields). -/
def State.reset : State where
  toRegs := Regs.reset
  pending := []
  response := .none

end Sys2Proof.Machine
end

