-- ==== Sys2Proof/Machine/Fields.lean ====
section
/-! DEFINITION. The 32-bit word each register reads as, with its reserved bits 0, and the fields a word carries
(R23 to R34 10_state.md). -/

namespace Sys2Proof.Machine

/-- INERT = 0, BROADCAST = 1 (R276). -/
def Carrier.bit : Carrier → BitVec 1
  | .inert => 0
  | .broadcast => 1

/-- The carrier state a bit stands for (R276). -/
def Carrier.ofBit (b : Bool) : Carrier := if b then .broadcast else .inert

/-- STATUS as a word (R24). -/
def StatusReg.toWord (r : StatusReg) : Word :=
  0#16 ++ r.errIndex ++ 0#4 ++ BitVec.ofBool r.trunc ++ r.err

/-- CONFIG as a word (R26). -/
def configWord (truncEn : Bool) : Word := 0#31 ++ BitVec.ofBool truncEn

/-- TS_DATE as a word (R28). -/
def TsDateReg.toWord (r : TsDateReg) : Word := r.day ++ r.month ++ r.year

/-- TS_TIME as a word (R28). -/
def TsTimeReg.toWord (r : TsTimeReg) : Word := r.weekday ++ r.second ++ r.minute ++ r.hour

/-- FRAME_INFO as a word (R31). -/
def FrameInfoReg.toWord (r : FrameInfoReg) : Word :=
  0#8 ++ r.rdPtr ++ 0#5 ++ BitVec.ofBool r.valid ++ r.fstd ++ r.len

/-- SYM_OUT as a word (R32). -/
def SymOutReg.toWord (r : SymOutReg) : Word := 0#14 ++ r.std ++ r.index ++ 0#6 ++ r.sym

/-- PULSE as a word (R33). -/
def PulseReg.toWord (r : PulseReg) : Word :=
  0#18 ++ r.steadyOn.bit ++ r.activeOn.bit ++ 0#2 ++ r.activeMs

/-- The fields of a STATUS word (R24). -/
def StatusReg.ofWord (v : Word) : StatusReg where
  err := v.extractLsb' 0 3
  trunc := v.getLsbD 3
  errIndex := v.extractLsb' 8 8

/-- The fields of a TS_DATE word (R28). -/
def TsDateReg.ofWord (v : Word) : TsDateReg where
  year := v.extractLsb' 0 16
  month := v.extractLsb' 16 8
  day := v.extractLsb' 24 8

/-- The fields of a TS_TIME word (R28). -/
def TsTimeReg.ofWord (v : Word) : TsTimeReg where
  hour := v.extractLsb' 0 8
  minute := v.extractLsb' 8 8
  second := v.extractLsb' 16 8
  weekday := v.extractLsb' 24 8

/-- The fields of a FRAME_INFO word (R31). -/
def FrameInfoReg.ofWord (v : Word) : FrameInfoReg where
  len := v.extractLsb' 0 8
  fstd := v.extractLsb' 8 2
  valid := v.getLsbD 10
  rdPtr := v.extractLsb' 16 8

/-- The fields of a SYM_OUT word (R32). -/
def SymOutReg.ofWord (v : Word) : SymOutReg where
  sym := v.extractLsb' 0 2
  index := v.extractLsb' 8 8
  std := v.extractLsb' 16 2

/-- The fields of a PULSE word (R33). -/
def PulseReg.ofWord (v : Word) : PulseReg where
  activeMs := v.extractLsb' 0 10
  activeOn := .ofBit (v.getLsbD 12)
  steadyOn := .ofBit (v.getLsbD 13)

/-- Every register word by rising offset, then every frame entry: all that the result of a command may depend on (R39). -/
def Regs.words (r : Regs) : List Word :=
  [r.status.toWord, configWord r.truncEn, r.argN.setWidth 32, r.argW.setWidth 32, r.result.setWidth 32,
    r.tsDate.toWord, r.tsTime.toWord, r.tsYday.setWidth 32, r.frameInfo.toWord, r.symOut.toWord, r.pulse.toWord]
  ++ r.frame.toList.map (·.setWidth 32)

/-- The registers after power is applied and before the first reset: each field free within its width (R361, I1;
DESIGN CHOICE, entry 7). -/
def Regs.powerUp : Regs where
  status := .ofWord (Config.powerUpWord 0x004)
  truncEn := (Config.powerUpWord 0x008).getLsbD 0
  argN := (Config.powerUpWord 0x00C).setWidth 16
  argW := (Config.powerUpWord 0x010).setWidth 5
  result := (Config.powerUpWord 0x014).setWidth 16
  tsDate := .ofWord (Config.powerUpWord 0x018)
  tsTime := .ofWord (Config.powerUpWord 0x01C)
  tsYday := (Config.powerUpWord 0x020).setWidth 16
  frameInfo := .ofWord (Config.powerUpWord 0x024)
  symOut := .ofWord (Config.powerUpWord 0x028)
  pulse := .ofWord (Config.powerUpWord 0x02C)
  frame := Vector.ofFn fun i => (Config.powerUpWord (0x100 + 4 * BitVec.ofNat 9 i)).setWidth 2

/-- The machine with power applied and no reset yet, before the given host events (R361; entry 7). -/
def State.powerUp (pending : List HostEvent) : State where
  toRegs := Regs.powerUp
  pending := pending
  response := .none

end Sys2Proof.Machine
end

