-- ==== Sys2Proof/Machine/Operands.lean ====
section
/-! DEFINITION. The operands commands read: N and W (R97 30_encoding.md), the TimeSample (R98), and the codes of
standards and symbols (R100, R101). -/

namespace Sys2Proof.Machine

/-- n = `ARG_N.N`, zero-extended (R97). -/
def operandN (s : State) : Nat := s.argN.toNat

/-- w = `ARG_W.W`, zero-extended (R97). -/
def operandW (s : State) : Nat := s.argW.toNat

/-- A legal width of BCD, PARITY and CHECKSUM: 1 to 16 (R97). -/
def bitWidthLegal (w : Nat) : Bool := 1 ≤ w && w ≤ 16

/-- A legal width of QUAT: 1 to 8 (R97). -/
def quatWidthLegal (w : Nat) : Bool := 1 ≤ w && w ≤ 8

/-- The TimeSample: the eight fields BUILD reads, as unsigned numbers (R28, R98). -/
structure TimeSample where
  /-- The full year. -/
  year : Nat
  /-- The month, 1 = January. -/
  month : Nat
  /-- The day of the month. -/
  day : Nat
  /-- The hour. -/
  hour : Nat
  /-- The minute. -/
  minute : Nat
  /-- The second. -/
  second : Nat
  /-- The ISO weekday, 1 = Monday to 7 = Sunday. -/
  weekday : Nat
  /-- The day of the year, 1 = 1 January. -/
  yday : Nat
  deriving DecidableEq, Repr

/-- The TimeSample a BUILD command encodes: the TS fields at the moment it executes (R28, R98). -/
def timeSample (s : State) : TimeSample where
  year := s.tsDate.year.toNat
  month := s.tsDate.month.toNat
  day := s.tsDate.day.toNat
  hour := s.tsTime.hour.toNat
  minute := s.tsTime.minute.toNat
  second := s.tsTime.second.toNat
  weekday := s.tsTime.weekday.toNat
  yday := s.tsYday.toNat

/-- The code of a standard in CMD.STD, FSTD and SYM_OUT.STD (R101). -/
def Standard.code : Standard → BitVec 2
  | .jjy => 0
  | .wwvb => 1
  | .bpc => 2

/-- The standard a code names; 3 is reserved (R101). -/
def Standard.ofCode (c : BitVec 2) : Option Standard :=
  if c = 0#2 then some .jjy
  else if c = 1#2 then some .wwvb
  else if c = 2#2 then some .bpc
  else none

/-- The number of symbol codes of a standard: 0..2 for JJY and WWVB, 0..3 for BPC (R100). -/
def Standard.symbolCount : Standard → Nat
  | .jjy => 3
  | .wwvb => 3
  | .bpc => 4

/-- The JJY and WWVB symbol Zero (R100). -/
def symZero : SymCode := 0

/-- The JJY and WWVB symbol One (R100). -/
def symOne : SymCode := 1

/-- The JJY and WWVB symbol Marker (R100). -/
def symMarker : SymCode := 2

/-- The symbol a frame holds for a bit: Zero or One (R100). -/
def symOfBit (b : Bool) : SymCode := if b then symOne else symZero

end Sys2Proof.Machine
end

