-- ==== Sys2Proof/Machine/Flags.lean ====
section
/-! DEFINITION. STATUS as a command's completion writes it (R25 10_state.md, R330 and R331 60_exceptions.md). -/

namespace Sys2Proof.Machine

/-- The code of an error class in STATUS.ERR (R25). -/
def ErrCode.code : ErrCode → BitVec 3
  | .clockInvariantViolation => 1
  | .encodingOverflow => 2
  | .illegalCommand => 3
  | .frameExhausted => 4

/-- The argument of `raise Error(code, index)` (R7). -/
structure CmdError where
  /-- The error class. -/
  code : ErrCode
  /-- The frame index ERR_INDEX records; 0 but for an overflow in BUILD (R322). -/
  index : Nat
  deriving DecidableEq, Repr

/-- STATUS after success: ERR = NONE, TRUNC = the command's `trunc`, ERR_INDEX = 0 (R330). -/
def successStatus (trunc : Bool) : StatusReg where
  err := 0
  trunc := trunc
  errIndex := 0

/-- STATUS after an error: ERR = code, TRUNC = 0, ERR_INDEX = index (R331). -/
def errorStatus (e : CmdError) : StatusReg where
  err := e.code.code
  trunc := false
  errIndex := BitVec.ofNat 8 e.index

end Sys2Proof.Machine
end

