-- ==== Sys2Proof/Machine/Ops.lean ====
section
/-! DEFINITION. The shared operations: register updates, completion with success or error (R330, R331 60_exceptions.md),
the digit sequences and their overflow policy (R7 00_scope.md, R130 to R141 40_primitives.md), the frame commit
(R190 41_frame_jjy_wwvb.md) and the pulse table (R260 to R263 43_symbol_timing.md). -/

namespace Sys2Proof.Machine

/-! ### Register updates -/

/-- Write STATUS. -/
def State.setStatus (st : StatusReg) (s : State) : State := { s with status := st }

/-- Write RESULT.VALUE (R30). -/
def State.setResult (v : BitVec 16) (s : State) : State := { s with result := v }

/-- Write PULSE (R33). -/
def State.setPulse (p : PulseReg) (s : State) : State := { s with pulse := p }

/-- Write SYM_OUT (R32). -/
def State.setSymOut (o : SymOutReg) (s : State) : State := { s with symOut := o }

/-- Write FRAME_INFO.RD_PTR and keep the other fields of FRAME_INFO (R36). -/
def State.setRdPtr (p : BitVec 8) (s : State) : State := { s with frameInfo := { s.frameInfo with rdPtr := p } }

/-- Apply reset: every register and every frame entry gets its reset value (R40, R306, R360). -/
def State.resetRegs (s : State) : State := { s with toRegs := Regs.reset }

/-- Discard the frame: every entry, FRAME_INFO, SYM_OUT and PULSE become 0 (R331). -/
def State.clearFrame (s : State) : State :=
  { s with
    frame := Regs.reset.frame
    frameInfo := Regs.reset.frameInfo
    symOut := Regs.reset.symOut
    pulse := Regs.reset.pulse }

/-- `commit_frame(f, std)`: f in entries 0..L-1, 0 above, FRAME_INFO for a fresh frame, SYM_OUT and PULSE 0 (R190). -/
def State.commitFrame (f : List SymCode) (std : Standard) (s : State) : State :=
  { s with
    frame := Vector.ofFn fun i : Fin 60 => f.getD i 0
    frameInfo := { len := BitVec.ofNat 8 f.length, fstd := std.code, valid := true, rdPtr := 0 }
    symOut := Regs.reset.symOut
    pulse := Regs.reset.pulse }

/-! ### Completion -/

/-- `complete OK` (R330). -/
def completeOk (trunc : Bool) (s : State) : State := s.setStatus (successStatus trunc)

/-- The error classes for which a failed BUILD discards the frame (R331). -/
def ErrCode.discardsFrame : ErrCode → Bool
  | .clockInvariantViolation => true
  | .encodingOverflow => true
  | .illegalCommand => false
  | .frameExhausted => false

/-- `raise Error(code, index)`, the one error completion, in place of trap entry (R331, R332): STATUS is written, a
failed BUILD (`isBuild`) discards the frame, and nothing else changes. The block has no return from it (R335). -/
def raiseError (isBuild : Bool) (e : CmdError) (s : State) : State :=
  if isBuild && e.code.discardsFrame then (s.setStatus (errorStatus e)).clearFrame
  else s.setStatus (errorStatus e)

/-- ILLEGAL_COMMAND with ERR_INDEX 0 (R323). -/
def illegalCommand : CmdError := { code := .illegalCommand, index := 0 }

/-- FRAME_EXHAUSTED with ERR_INDEX 0 (R324). -/
def frameExhausted : CmdError := { code := .frameExhausted, index := 0 }

/-- CLOCK_INVARIANT_VIOLATION with ERR_INDEX 0 (R321). -/
def clockViolation : CmdError := { code := .clockInvariantViolation, index := 0 }

/-- ENCODING_OVERFLOW at a frame index (R322). -/
def overflowAt (idx : Nat) : CmdError := { code := .encodingOverflow, index := idx }

/-- Executing a word that decodes as ILLEGAL (R96): never a BUILD, even with OP = 0x8 (R331). -/
def execIllegal (s : State) : State := raiseError false illegalCommand s

/-! ### Digit sequences -/

/-- `bin_w(v)`: the w bits of v, most significant first (R7). -/
def binW (w v : Nat) : List Bool := (List.range w).map fun i => v / 2 ^ (w - 1 - i) % 2 == 1

/-- `quat_w(v)`: the w base-4 digits of v, most significant first (R7). -/
def quatW (w v : Nat) : List SymCode :=
  (List.range w).map fun i => BitVec.ofNat 2 (v / 4 ^ (w - 1 - i) % 4)

/-- `bin_2(c)` of a symbol code (R7). -/
def codeBits (c : SymCode) : List Bool := [c.getLsbD 1, c.getLsbD 0]

/-- `qbits(codes)`: each 2-bit code replaced with its two bits, in order (R7). -/
def qbits (codes : List SymCode) : List Bool := codes.flatMap codeBits

/-- `popcount(bits)`: the number of 1 elements (R7). -/
def popcount (bits : List Bool) : Nat := bits.count true

/-- `parity(bits) = popcount(bits) mod 2`, as a bit (R140). -/
def parity (bits : List Bool) : Bool := popcount bits % 2 == 1

/-- `checksum(bits)`: the same function as parity (R141). -/
def checksum (bits : List Bool) : Bool := parity bits

/-- The value of a bit sequence, its first element the most significant (R132). -/
def bitsValue (bits : List Bool) : Nat := bits.foldl (fun v b => 2 * v + b.toNat) 0

/-- The value of a base-4 digit sequence, its first element the most significant (R137). -/
def digitsValue (digits : List SymCode) : Nat := digits.foldl (fun v d => 4 * v + d.toNat) 0

/-- A sequence that has passed the overflow policy, with the command's `trunc` flag so far (R301). -/
structure Fitted (α : Type) where
  /-- The sequence. -/
  digits : List α
  /-- Whether a value was truncated to make it. -/
  truncated : Bool
  deriving DecidableEq, Repr

/-- `fitb(n, w, idx)`: the overflow policy for binary fields (R131). -/
def fitb (truncEn : Bool) (n w idx : Nat) : Except CmdError (Fitted Bool) :=
  if n < 2 ^ w then .ok { digits := binW w n, truncated := false }
  else if truncEn then .ok { digits := binW w (n % 2 ^ w), truncated := true }
  else .error (overflowAt idx)

/-- `fitq(n, w, idx)`: the overflow policy for quaternary fields (R136). -/
def fitq (truncEn : Bool) (n w idx : Nat) : Except CmdError (Fitted SymCode) :=
  if n < 4 ^ w then .ok { digits := quatW w n, truncated := false }
  else if truncEn then .ok { digits := quatW w (n % 4 ^ w), truncated := true }
  else .error (overflowAt idx)

/-- Complete a primitive command: RESULT gets the value, right-justified, and the command succeeds (R30, R330). -/
def completeResult (v : Nat) (trunc : Bool) (s : State) : State :=
  completeOk trunc (s.setResult (BitVec.ofNat 16 v))

/-! ### Frames and pulses -/

/-- Complete a BUILD command of a standard with the frame built or the error met (R170, R195, R220, R331). -/
def completeBuild (std : Standard) (built : Except CmdError (Fitted SymCode)) (s : State) : State :=
  match built with
  | .ok f => completeOk f.truncated (s.commitFrame f.digits std)
  | .error e => raiseError true e s

/-- Build a profile: BROADCAST then INERT (R261). -/
def broadcastPulse (ms : Nat) : PulseReg :=
  { activeMs := BitVec.ofNat 10 ms, activeOn := .broadcast, steadyOn := .inert }

/-- Build a profile: INERT then BROADCAST (R262, R263). -/
def inertPulse (ms : Nat) : PulseReg :=
  { activeMs := BitVec.ofNat 10 ms, activeOn := .inert, steadyOn := .broadcast }

/-- The JJY table (R261). Code 3 is no symbol (R100). -/
def pulseJjy (c : SymCode) : Option PulseReg :=
  if c = 0#2 then some (broadcastPulse 800)
  else if c = 1#2 then some (broadcastPulse 500)
  else if c = 2#2 then some (broadcastPulse 200)
  else none

/-- The WWVB table, the inverse duty (R262). Code 3 is no symbol (R100). -/
def pulseWwvb (c : SymCode) : Option PulseReg :=
  if c = 0#2 then some (inertPulse 200)
  else if c = 1#2 then some (inertPulse 500)
  else if c = 2#2 then some (inertPulse 800)
  else none

/-- The BPC table (R263). -/
def pulseBpc (c : SymCode) : Option PulseReg :=
  if c = 0#2 then some (inertPulse 100)
  else if c = 1#2 then some (inertPulse 200)
  else if c = 2#2 then some (inertPulse 300)
  else some (inertPulse 400)

/-- `pulse(std, s)`, total over each standard's symbols (R260). -/
def pulse : Standard → SymCode → Option PulseReg
  | .jjy, c => pulseJjy c
  | .wwvb, c => pulseWwvb c
  | .bpc, c => pulseBpc c

/-- MAP of a standard: N as a symbol code, refused if it is none of the standard's, else its profile (R265 to R267). -/
def mapSymbol (std : Standard) (s : State) : State :=
  if operandN s < std.symbolCount then
    match pulse std (BitVec.ofNat 2 (operandN s)) with
    | some p => completeOk false (s.setPulse p)
    | none => raiseError false illegalCommand s
  else raiseError false illegalCommand s

/-- `FRAME[i]` for i = RD_PTR (R270). The buffer has no entry past 59 (R7): there the symbol is a free value, which
only a state before the first reset can meet (DESIGN CHOICE, entry 8). -/
def nextSymbol (s : State) : SymCode :=
  if h : s.frameInfo.rdPtr.toNat < 60 then s.frame[s.frameInfo.rdPtr.toNat]
  else Config.frameBeyond s.words

/-- `pulse(FSTD, s)` for a symbol POP delivers (R270). Where FSTD names no standard or the code no symbol, the profile
is a free value, which only a state before the first reset can meet (R260; DESIGN CHOICE, entry 8). -/
def framePulse (s : State) (c : SymCode) : PulseReg :=
  match (Standard.ofCode s.frameInfo.fstd).bind (pulse · c) with
  | some p => p
  | none => .ofWord (Config.undefinedPulse s.words)

/-- R270's test: no frame is held, or every symbol has been delivered. -/
def frameSpent (s : State) : Bool := !s.frameInfo.valid || s.frameInfo.len ≤ s.frameInfo.rdPtr

/-- Deliver the symbol at RD_PTR with its profile, and advance RD_PTR by 1 (R270). -/
def deliverSymbol (s : State) : State :=
  let c := nextSymbol s
  completeOk false
    (((s.setSymOut { sym := c, index := s.frameInfo.rdPtr, std := s.frameInfo.fstd }).setPulse
      (framePulse s c)).setRdPtr (s.frameInfo.rdPtr + 1))

end Sys2Proof.Machine
end

