-- ==== Sys2Proof/Machine/Control.lean ====
section
/-! DEFINITION. The control commands NOP and SOFT_RESET (44_control.md). -/

namespace Sys2Proof.Machine

/-- NOP: no register, no frame entry and no STATUS field is written (R305). -/
def execNop (s : State) : Host.Outcome State Fault Refusal := .next s

/-- SOFT_RESET: the same state change as the reset input; completion writes nothing more (R306, R330). -/
def execSoftReset (s : State) : Host.Outcome State Fault Refusal := .next s.resetRegs

end Sys2Proof.Machine
end

