-- ==== Sys2Proof/Machine/FrameBpc.lean ====
section
/-! DEFINITION. The BPC frame builder: BUILD.BPC (42_frame_bpc.md). -/

namespace Sys2Proof.Machine

/-- Fit a quaternary field and append it to what is built so far (R222, R234). -/
def appendField (truncEn : Bool) (n w idx : Nat) (built : Fitted SymCode) : Except CmdError (Fitted SymCode) :=
  match fitq truncEn n w idx with
  | .error e => .error e
  | .ok f => .ok { digits := built.digits ++ f.digits, truncated := built.truncated || f.truncated }

/-- The PM flag: the 24-hour HOUR is 12 or more (R226). -/
def isPm (hour : Nat) : Bool := 12 ≤ hour

/-- The 12-hour conversion, done once (R226). -/
def hour12 (hour : Nat) : Nat := if 12 ≤ hour then hour - 12 else hour

/-- Indices 0..8: p1, p2, hour, minute and weekday (R223, R224, R225, R227, R228). -/
def bpcTimeBlock (truncEn : Bool) (ts : TimeSample) : Except CmdError (Fitted SymCode) :=
  match appendField truncEn (hour12 ts.hour) 2 2 { digits := [BitVec.ofNat 2 (ts.second / 20), 0], truncated := false } with
  | .error e => .error e
  | .ok h =>
    match appendField truncEn ts.minute 3 4 h with
    | .error e => .error e
    | .ok m => appendField truncEn ts.weekday 2 7 m

/-- Indices 10..17: day, month and year in the century (R230, R231, R232). -/
def bpcDateBlock (truncEn : Bool) (ts : TimeSample) : Except CmdError (Fitted SymCode) :=
  match appendField truncEn ts.day 3 10 { digits := [], truncated := false } with
  | .error e => .error e
  | .ok d =>
    match appendField truncEn ts.month 2 13 d with
    | .error e => .error e
    | .ok m => appendField truncEn (ts.year % 100) 3 15 m

/-- p3: the checksum of indices 0..8 in bit 0, the PM flag in bit 1 (R229). -/
def bpcP3 (time : List SymCode) (hour : Nat) : SymCode :=
  BitVec.ofNat 2 ((checksum (qbits time)).toNat + 2 * (isPm hour).toNat)

/-- p4: the checksum of indices 10..17 (R233). -/
def bpcP4 (date : List SymCode) : SymCode := BitVec.ofNat 2 (checksum (qbits date)).toNat

/-- `bpc_frame(ts)`: the fields are fitted in frame order (R222, R234). -/
def bpcFrame (truncEn : Bool) (ts : TimeSample) : Except CmdError (Fitted SymCode) :=
  match bpcTimeBlock truncEn ts with
  | .error e => .error e
  | .ok time =>
    match bpcDateBlock truncEn ts with
    | .error e => .error e
    | .ok date =>
      .ok
        { digits := time.digits ++ [bpcP3 time.digits ts.hour] ++ date.digits ++ [bpcP4 date.digits]
          truncated := time.truncated || date.truncated }

/-- The BPC phases: second 0, 20 or 40; the legacy shifted phase is refused (R221, I3). -/
def bpcPhase (second : Nat) : Bool := second == 0 || second == 20 || second == 40

/-- BUILD.BPC: phase check first, then the frame, committed as standard 2 (R220, R221, R240). -/
def execBuildBpc (s : State) : Host.Outcome State Fault Refusal :=
  .next <|
    if bpcPhase (timeSample s).second then completeBuild .bpc (bpcFrame s.truncEn (timeSample s)) s
    else raiseError true clockViolation s

end Sys2Proof.Machine
end

