-- ==== Sys2Proof/Machine/FrameJjyWwvb.lean ====
section
/-! DEFINITION. The JJY and WWVB frame builder: BUILD.JJY and BUILD.WWVB (41_frame_jjy_wwvb.md). -/

namespace Sys2Proof.Machine

/-- `bcdfield(v, wt, wu, it, iu)`: the tens digit v div 10 and the units digit v mod 10, each fitted (R173). -/
def bcdField (truncEn : Bool) (v wt wu it iu : Nat) : Except CmdError (Fitted Bool) :=
  match fitb truncEn (v / 10) wt it with
  | .error e => .error e
  | .ok t =>
    match fitb truncEn (v % 10) wu iu with
    | .error e => .error e
    | .ok u => .ok { digits := t.digits ++ u.digits, truncated := t.truncated || u.truncated }

/-- The 60 slots in frame order (R172, R174 to R189): `mc` and `hc` are the minute and hour codes, `dh`, `dt` and `du`
the digits of the day of the year, `yt` and `yu` those of the year in the century, `wd` the weekday. -/
def frameLayout (mc hc dh dt du yt yu wd : List Bool) : List SymCode :=
  let data := List.map symOfBit
  [symMarker] ++ data (mc.take 3) ++ [symZero] ++ data (mc.drop 3)          -- 0, 1..3, 4, 5..8
  ++ [symMarker] ++ [symZero, symZero]                                      -- 9 (P1), 10..11
  ++ data (hc.take 2) ++ [symZero] ++ data (hc.drop 2)                      -- 12..13, 14, 15..18
  ++ [symMarker] ++ [symZero, symZero]                                      -- 19 (P2), 20..21
  ++ data dh ++ [symZero] ++ data dt ++ [symMarker] ++ data du              -- 22..23, 24, 25..28, 29 (P3), 30..33
  ++ [symZero, symZero] ++ data [parity hc] ++ data [parity mc]             -- 34..35, 36, 37
  ++ [symZero] ++ [symMarker] ++ [symZero]                                  -- 38, 39 (P4), 40
  ++ data yt ++ data yu ++ [symMarker] ++ data wd                           -- 41..44, 45..48, 49 (P5), 50..52
  ++ List.replicate 6 symZero ++ [symMarker]                                -- 53..58, 59 (P0)

/-- `skeleton(ts)`: the minute, the hour and the hundreds of the day are fitted in that order, then the slots are
filled (R172). -/
def skeleton (truncEn : Bool) (ts : TimeSample) : Except CmdError (Fitted SymCode) :=
  match bcdField truncEn ts.minute 3 4 1 5 with
  | .error e => .error e
  | .ok mc =>
    match bcdField truncEn ts.hour 2 4 12 15 with
    | .error e => .error e
    | .ok hc =>
      match fitb truncEn (ts.yday / 100) 2 22 with
      | .error e => .error e
      | .ok dh =>
        let yy := ts.year % 100
        .ok
          { digits := frameLayout mc.digits hc.digits dh.digits (binW 4 (ts.yday / 10 % 10))
              (binW 4 (ts.yday % 10)) (binW 4 (yy / 10)) (binW 4 (yy % 10)) (binW 3 (ts.weekday % 7))
            truncated := mc.truncated || hc.truncated || dh.truncated }

/-- The Gregorian leap-year rule, on the full YEAR field (R197; entry 13). -/
def leap (y : Nat) : Bool := (y % 4 == 0 && y % 100 != 0) || y % 400 == 0

/-- `wwvb_subst(f, ts)`: the DUT1 slots hold Zero and `WWVB_LY_INDEX` the leap-year flag (R196). -/
def wwvbSubst (f : List SymCode) (ts : TimeSample) : List SymCode :=
  (((f.set 34 symZero).set 35 symZero).set 38 symZero).set Config.wwvbLyIndex (symOfBit (leap ts.year))

/-- The WWVB frame: the skeleton with the substitution, which never overflows (R195). -/
def wwvbFrame (truncEn : Bool) (ts : TimeSample) : Except CmdError (Fitted SymCode) :=
  match skeleton truncEn ts with
  | .error e => .error e
  | .ok f => .ok { f with digits := wwvbSubst f.digits ts }

/-- BUILD.JJY: phase check first, then the skeleton, committed as standard 0 (R170, R171). -/
def execBuildJjy (s : State) : Host.Outcome State Fault Refusal :=
  .next <|
    if (timeSample s).second ≠ 0 then raiseError true clockViolation s
    else completeBuild .jjy (skeleton s.truncEn (timeSample s)) s

/-- BUILD.WWVB: phase check first, then the skeleton with the WWVB substitution, committed as standard 1 (R171, R195). -/
def execBuildWwvb (s : State) : Host.Outcome State Fault Refusal :=
  .next <|
    if (timeSample s).second ≠ 0 then raiseError true clockViolation s
    else completeBuild .wwvb (wwvbFrame s.truncEn (timeSample s)) s

end Sys2Proof.Machine
end

