-- ==== Sys2Proof/Machine/Primitives.lean ====
section
/-! DEFINITION. The primitive commands BCD, QUAT, PARITY and CHECKSUM (40_primitives.md). -/

namespace Sys2Proof.Machine

/-- BCD: RESULT gets N as W-bit binary; W outside 1..16 is ILLEGAL_COMMAND, and N >= 2^W goes through the overflow
policy (R131, R132). -/
def execBcd (s : State) : Host.Outcome State Fault Refusal :=
  .next <|
    if bitWidthLegal (operandW s) then
      match fitb s.truncEn (operandN s) (operandW s) 0 with
      | .ok f => completeResult (bitsValue f.digits) f.truncated s
      | .error e => raiseError false e s
    else raiseError false illegalCommand s

/-- QUAT: RESULT gets N as W base-4 digits; W outside 1..8 is ILLEGAL_COMMAND, and N >= 4^W goes through the overflow
policy (R136, R137). -/
def execQuat (s : State) : Host.Outcome State Fault Refusal :=
  .next <|
    if quatWidthLegal (operandW s) then
      match fitq s.truncEn (operandN s) (operandW s) 0 with
      | .ok f => completeResult (digitsValue f.digits) f.truncated s
      | .error e => raiseError false e s
    else raiseError false illegalCommand s

/-- The bit vector PARITY and CHECKSUM read: the low W bits of N; the bits above are outside it, which is no overflow
(R142, R143). -/
def operandBits (s : State) : List Bool := binW (operandW s) (operandN s % 2 ^ operandW s)

/-- PARITY: RESULT gets the even-parity bit of the low W bits of N; W outside 1..16 is ILLEGAL_COMMAND (R142). -/
def execParity (s : State) : Host.Outcome State Fault Refusal :=
  .next <|
    if bitWidthLegal (operandW s) then completeResult (parity (operandBits s)).toNat false s
    else raiseError false illegalCommand s

/-- CHECKSUM: as PARITY, with `checksum` (R143). -/
def execChecksum (s : State) : Host.Outcome State Fault Refusal :=
  .next <|
    if bitWidthLegal (operandW s) then completeResult (checksum (operandBits s)).toNat false s
    else raiseError false illegalCommand s

end Sys2Proof.Machine
end

