-- ==== Sys2Proof/Machine/SymbolTiming.lean ====
section
/-! DEFINITION. The symbol-to-timing mapper and the frame read port: MAP.JJY, MAP.WWVB, MAP.BPC, POP and REWIND
(43_symbol_timing.md). -/

namespace Sys2Proof.Machine

/-- MAP.JJY: PULSE gets the JJY profile of symbol N; N >= 3 is ILLEGAL_COMMAND (R265). -/
def execMapJjy (s : State) : Host.Outcome State Fault Refusal := .next (mapSymbol .jjy s)

/-- MAP.WWVB: PULSE gets the WWVB profile of symbol N; N >= 3 is ILLEGAL_COMMAND (R266). -/
def execMapWwvb (s : State) : Host.Outcome State Fault Refusal := .next (mapSymbol .wwvb s)

/-- MAP.BPC: PULSE gets the BPC profile of symbol N; N >= 4 is ILLEGAL_COMMAND (R267). -/
def execMapBpc (s : State) : Host.Outcome State Fault Refusal := .next (mapSymbol .bpc s)

/-- POP: deliver the next frame symbol and its profile, or FRAME_EXHAUSTED (R270, R271). -/
def execPop (s : State) : Host.Outcome State Fault Refusal :=
  .next <| if frameSpent s then raiseError false frameExhausted s else deliverSymbol s

/-- REWIND: restart delivery of the held frame (R275). -/
def execRewind (s : State) : Host.Outcome State Fault Refusal := .next (completeOk false (s.setRdPtr 0))

end Sys2Proof.Machine
end

