-- ==== Sys2Proof/Machine/Dispatch.lean ====
section
/-! DEFINITION. Each command's meaning, one arm per constructor (R91 30_encoding.md). -/

namespace Sys2Proof.Machine

def exec (i : Instr) (s : State) : Host.Outcome State Fault Refusal :=
  match i with
  | .nop => Sys2Proof.Machine.execNop s
  | .bcd => Sys2Proof.Machine.execBcd s
  | .quat => Sys2Proof.Machine.execQuat s
  | .parity => Sys2Proof.Machine.execParity s
  | .checksum => Sys2Proof.Machine.execChecksum s
  | .buildJjy => Sys2Proof.Machine.execBuildJjy s
  | .buildWwvb => Sys2Proof.Machine.execBuildWwvb s
  | .buildBpc => Sys2Proof.Machine.execBuildBpc s
  | .mapJjy => Sys2Proof.Machine.execMapJjy s
  | .mapWwvb => Sys2Proof.Machine.execMapWwvb s
  | .mapBpc => Sys2Proof.Machine.execMapBpc s
  | .pop => Sys2Proof.Machine.execPop s
  | .rewind => Sys2Proof.Machine.execRewind s
  | .softReset => Sys2Proof.Machine.execSoftReset s

end Sys2Proof.Machine
end

