-- ==== Sys2Proof/Machine/Bus.lean ====
section
/-! DEFINITION. The register bus: which register an offset names, what a read returns and what a write does
(R21, R22 10_state.md; R60 to R70 20_memory.md), and serving one host event. -/

namespace Sys2Proof.Machine

/-- The registers the host can name (R21). -/
inductive Reg where
  /-- CMD, 0x000. -/
  | cmd
  /-- STATUS, 0x004. -/
  | status
  /-- CONFIG, 0x008. -/
  | config
  /-- ARG_N, 0x00C. -/
  | argN
  /-- ARG_W, 0x010. -/
  | argW
  /-- RESULT, 0x014. -/
  | result
  /-- TS_DATE, 0x018. -/
  | tsDate
  /-- TS_TIME, 0x01C. -/
  | tsTime
  /-- TS_YDAY, 0x020. -/
  | tsYday
  /-- FRAME_INFO, 0x024. -/
  | frameInfo
  /-- SYM_OUT, 0x028. -/
  | symOut
  /-- PULSE, 0x02C. -/
  | pulse
  /-- FRAME_SYM[i], 0x100 + 4*i. -/
  | frameSym (i : Fin 60)
  deriving DecidableEq, Repr

/-- The offset that a host address inside the aperture gives the block: its low 9 bits, since `TSE_BASE` is a multiple
of 512 (R61). The events of `State.pending` carry this offset (entry 5). -/
def offsetOfAddress (address : Nat) : Offset := BitVec.ofNat 9 address

/-- The register mapped at an aligned offset; the rest of the aperture is unmapped (R21, R64). -/
def mappedReg (off : Offset) : Option Reg :=
  if off = 0x000#9 then some .cmd
  else if off = 0x004#9 then some .status
  else if off = 0x008#9 then some .config
  else if off = 0x00C#9 then some .argN
  else if off = 0x010#9 then some .argW
  else if off = 0x014#9 then some .result
  else if off = 0x018#9 then some .tsDate
  else if off = 0x01C#9 then some .tsTime
  else if off = 0x020#9 then some .tsYday
  else if off = 0x024#9 then some .frameInfo
  else if off = 0x028#9 then some .symOut
  else if off = 0x02C#9 then some .pulse
  else if h : 0x100 ≤ off.toNat ∧ off.toNat ≤ 0x1EC then
    some (.frameSym ⟨(off.toNat - 0x100) / 4, by omega⟩)
  else none

/-- The register an access reaches: 4 bytes wide, aligned and mapped, or none and so a bus error (R62, R63, R64). -/
def accessReg (off : Offset) (size : Nat) : Option Reg :=
  if size = 4 ∧ off.toNat % 4 = 0 then mappedReg off else none

/-- What a register reads as, its reserved bits 0; CMD reads 0 (R22, R64). -/
def readReg (r : Reg) (s : State) : Word :=
  match r with
  | .cmd => 0
  | .status => s.status.toWord
  | .config => configWord s.truncEn
  | .argN => s.argN.setWidth 32
  | .argW => s.argW.setWidth 32
  | .result => s.result.setWidth 32
  | .tsDate => s.tsDate.toWord
  | .tsTime => s.tsTime.toWord
  | .tsYday => s.tsYday.setWidth 32
  | .frameInfo => s.frameInfo.toWord
  | .symOut => s.symOut.toWord
  | .pulse => s.pulse.toWord
  | .frameSym i => s.frame[i].setWidth 32

/-- `MemRead(off, size)`: a bus error, or the register's word; no read changes a register (R64, R67). -/
def memRead (off : Offset) (size : Nat) (s : State) : BusResponse :=
  match accessReg off size with
  | none => .busError
  | some r => .data (readReg r s)

/-- Store a host write into a register other than CMD: a read/write register keeps the bits of its fields, a read-only
register ignores the write (R22, R26 to R28). -/
def storeReg (r : Reg) (v : Word) (s : State) : State :=
  match r with
  | .config => { s with truncEn := v.getLsbD 0 }
  | .argN => { s with argN := v.setWidth 16 }
  | .argW => { s with argW := v.setWidth 5 }
  | .tsDate => { s with tsDate := .ofWord v }
  | .tsTime => { s with tsTime := .ofWord v }
  | .tsYday => { s with tsYday := v.setWidth 16 }
  | .cmd => s
  | .status => s
  | .result => s
  | .frameInfo => s
  | .symOut => s
  | .pulse => s
  | .frameSym _ => s

/-- Record what an event drew on the bus (entry 2). -/
def State.respond (r : BusResponse) (s : State) : State := { s with response := r }

/-- A write that runs a command is accepted once the command has completed, with success or with an error, which only
STATUS reports (R300, R332; entry 14). A command that does not complete passes its stop on. -/
def acceptCommand (o : Host.Outcome State Fault Refusal) : Host.Outcome State Fault Refusal :=
  match o with
  | .next s => .next (s.respond .ok)
  | .fault r => .fault r
  | .refused r => .refused r

/-- Execute the command that a word written to CMD encodes (R23, R300); an illegal word is ILLEGAL_COMMAND (R96). -/
def runCommand (v : Word) (s : State) : Host.Outcome State Fault Refusal :=
  match decode v with
  | .ok i => exec i s
  | .error _ => .next (execIllegal s)

/-- `MemWrite(off, size, v)` (R64). -/
def memWrite (off : Offset) (size : Nat) (v : Word) (s : State) : Host.Outcome State Fault Refusal :=
  match accessReg off size with
  | none => .next (s.respond .busError)
  | some .cmd => acceptCommand (runCommand v s)
  | some r => .next ((storeReg r v s).respond .ok)

/-- Serve one host event completely (R70, R300, R360). -/
def serve (e : HostEvent) (s : State) : Host.Outcome State Fault Refusal :=
  match e with
  | .read off size => .next (s.respond (memRead off size s))
  | .write off size v => memWrite off size v s
  | .reset => .next (s.resetRegs.respond .none)

end Sys2Proof.Machine
end

