-- ==== Sys2Proof/Machine/Step.lean ====
section
/-! DEFINITION. One step: the oldest host event not yet served is served completely (R70 20_memory.md, R300
44_control.md). -/

namespace Sys2Proof.Machine

/-- Serve the oldest pending event; with none pending the registers keep their values (R70, R345; entry 4). -/
def step (s : State) : Host.Outcome State Fault Refusal :=
  match s.pending with
  | [] => .next s
  | e :: rest => serve e { s with pending := rest }

/-- Place a command where the next step takes it: a 32-bit write of its word to CMD, ahead of the other pending events
(R90, R300; entry 1). A command is 32 bits long, so bits past those are not part of it. -/
def State.withFetchWord (s : State) (nbits w : Nat) : State :=
  { s with pending := .write 0x000#9 4 (BitVec.ofNat 32 (w % 2 ^ nbits)) :: s.pending }

end Sys2Proof.Machine
end

