-- ==== Sys2Proof/Safety.lean ====
section
/-! DEFINITION. The words claims are made in: the spec's tables written out as data (command words R91, offsets R21,
field places R24 to R34, frame slots R193 and R235, pulse words R261 to R263), and the states a reset machine keeps
itself in. Nothing here is used by the machine. -/

namespace Sys2Proof.Safety

open Sys2Proof.Machine

/-! ### Tables of the spec -/

/-- The CMD word column of R91. -/
def commandWord : Instr → Word
  | .nop => 0x00000000
  | .bcd => 0x00000001
  | .quat => 0x00000002
  | .parity => 0x00000003
  | .checksum => 0x00000004
  | .buildJjy => 0x00000008
  | .buildWwvb => 0x00000018
  | .buildBpc => 0x00000028
  | .mapJjy => 0x00000009
  | .mapWwvb => 0x00000019
  | .mapBpc => 0x00000029
  | .pop => 0x0000000A
  | .rewind => 0x0000000B
  | .softReset => 0x0000000F

/-- The offset column of R21. -/
def regOffset : Reg → Nat
  | .cmd => 0x000
  | .status => 0x004
  | .config => 0x008
  | .argN => 0x00C
  | .argW => 0x010
  | .result => 0x014
  | .tsDate => 0x018
  | .tsTime => 0x01C
  | .tsYday => 0x020
  | .frameInfo => 0x024
  | .symOut => 0x028
  | .pulse => 0x02C
  | .frameSym i => 0x100 + 4 * i.val

/-- The bits of a register a host write stores: those of its fields for a read/write register, none otherwise
(R21, R22, R26, R27, R28). -/
def storedBits : Reg → Word
  | .config => 0x00000001
  | .argN => 0x0000FFFF
  | .argW => 0x0000001F
  | .tsDate => 0xFFFFFFFF
  | .tsTime => 0xFFFFFFFF
  | .tsYday => 0x0000FFFF
  | .cmd => 0
  | .status => 0
  | .result => 0
  | .frameInfo => 0
  | .symOut => 0
  | .pulse => 0
  | .frameSym _ => 0

/-- The number a register reads as, from the places of its fields (R24 to R34); reserved bits count 0 (R22). -/
def registerValue (s : State) : Reg → Nat
  | .cmd => 0
  | .status => s.status.err.toNat + 2 ^ 3 * s.status.trunc.toNat + 2 ^ 8 * s.status.errIndex.toNat
  | .config => s.truncEn.toNat
  | .argN => s.argN.toNat
  | .argW => s.argW.toNat
  | .result => s.result.toNat
  | .tsDate => s.tsDate.year.toNat + 2 ^ 16 * s.tsDate.month.toNat + 2 ^ 24 * s.tsDate.day.toNat
  | .tsTime => s.tsTime.hour.toNat + 2 ^ 8 * s.tsTime.minute.toNat + 2 ^ 16 * s.tsTime.second.toNat
      + 2 ^ 24 * s.tsTime.weekday.toNat
  | .tsYday => s.tsYday.toNat
  | .frameInfo => s.frameInfo.len.toNat + 2 ^ 8 * s.frameInfo.fstd.toNat + 2 ^ 10 * s.frameInfo.valid.toNat
      + 2 ^ 16 * s.frameInfo.rdPtr.toNat
  | .symOut => s.symOut.sym.toNat + 2 ^ 8 * s.symOut.index.toNat + 2 ^ 16 * s.symOut.std.toNat
  | .pulse => s.pulse.activeMs.toNat + 2 ^ 12 * s.pulse.activeOn.bit.toNat + 2 ^ 13 * s.pulse.steadyOn.bit.toNat
  | .frameSym i => s.frame[i].toNat

/-- The registers a command may write (R26 to R34, R37, R38 and each command's own rule). -/
def mayWrite : Instr → Reg → Bool
  | .nop, _ => false
  | .softReset, _ => true
  | .bcd, r | .quat, r | .parity, r | .checksum, r => r == .status || r == .result
  | .mapJjy, r | .mapWwvb, r | .mapBpc, r => r == .status || r == .pulse
  | .pop, r => r == .status || r == .frameInfo || r == .symOut || r == .pulse
  | .rewind, r => r == .status || r == .frameInfo
  | .buildJjy, r | .buildWwvb, r | .buildBpc, r =>
      r == .status || r == .frameInfo || r == .symOut || r == .pulse || regOffset r ≥ 0x100

/-- The three BUILD commands. -/
def isBuild (i : Instr) : Bool := i == .buildJjy || i == .buildWwvb || i == .buildBpc

/-- The PULSE word column of R261, R262 and R263, by standard and symbol code; 0 where there is no such symbol, since
0 describes no symbol (R33). -/
def pulseTable (std : BitVec 2) (code : SymCode) : Word :=
  match std.toNat, code.toNat with
  | 0, 0 => 0x00001320
  | 0, 1 => 0x000011F4
  | 0, 2 => 0x000010C8
  | 1, 0 => 0x000020C8
  | 1, 1 => 0x000021F4
  | 1, 2 => 0x00002320
  | 2, 0 => 0x00002064
  | 2, 1 => 0x000020C8
  | 2, 2 => 0x0000212C
  | 2, 3 => 0x00002190
  | _, _ => 0

/-- The bit of weight 2^k of a decimal digit, as a symbol code. -/
def digitBit (digit k : Nat) : SymCode := BitVec.ofNat 2 (digit / 2 ^ k % 2)

/-- The base-4 digit of weight 4^k of a value, as a symbol code. -/
def digit4 (v k : Nat) : SymCode := BitVec.ofNat 2 (v / 4 ^ k % 4)

/-- How many of the two bits of a symbol code are 1 (R141). -/
def ones (c : SymCode) : Nat := c.toNat % 2 + c.toNat / 2

/-- How many 1 bits the codes at `count` indices from `first` on hold (R141). -/
def onesFrom (slot : Nat → SymCode) (first count : Nat) : Nat :=
  ((List.range count).map fun k => ones (slot (first + k))).sum

/-- The seven Marker indices of a JJY or WWVB frame (R191). -/
def markerIndices : List Nat := [0, 9, 19, 29, 39, 49, 59]

/-- The content column of R193 for JJY, one row per index. -/
def jjySlot (ts : TimeSample) : Nat → SymCode
  | 0 | 9 | 19 | 29 | 39 | 49 | 59 => 2
  | 1 => digitBit (ts.minute / 10) 2
  | 2 => digitBit (ts.minute / 10) 1
  | 3 => digitBit (ts.minute / 10) 0
  | 5 => digitBit (ts.minute % 10) 3
  | 6 => digitBit (ts.minute % 10) 2
  | 7 => digitBit (ts.minute % 10) 1
  | 8 => digitBit (ts.minute % 10) 0
  | 12 => digitBit (ts.hour / 10) 1
  | 13 => digitBit (ts.hour / 10) 0
  | 15 => digitBit (ts.hour % 10) 3
  | 16 => digitBit (ts.hour % 10) 2
  | 17 => digitBit (ts.hour % 10) 1
  | 18 => digitBit (ts.hour % 10) 0
  | 22 => digitBit (ts.yday / 100) 1
  | 23 => digitBit (ts.yday / 100) 0
  | 25 => digitBit (ts.yday / 10 % 10) 3
  | 26 => digitBit (ts.yday / 10 % 10) 2
  | 27 => digitBit (ts.yday / 10 % 10) 1
  | 28 => digitBit (ts.yday / 10 % 10) 0
  | 30 => digitBit (ts.yday % 10) 3
  | 31 => digitBit (ts.yday % 10) 2
  | 32 => digitBit (ts.yday % 10) 1
  | 33 => digitBit (ts.yday % 10) 0
  | 36 => BitVec.ofNat 2
      ((ts.hour / 10 / 2 % 2 + ts.hour / 10 % 2 + ts.hour % 10 / 8 % 2 + ts.hour % 10 / 4 % 2
        + ts.hour % 10 / 2 % 2 + ts.hour % 10 % 2) % 2)
  | 37 => BitVec.ofNat 2
      ((ts.minute / 10 / 4 % 2 + ts.minute / 10 / 2 % 2 + ts.minute / 10 % 2 + ts.minute % 10 / 8 % 2
        + ts.minute % 10 / 4 % 2 + ts.minute % 10 / 2 % 2 + ts.minute % 10 % 2) % 2)
  | 41 => digitBit (ts.year % 100 / 10) 3
  | 42 => digitBit (ts.year % 100 / 10) 2
  | 43 => digitBit (ts.year % 100 / 10) 1
  | 44 => digitBit (ts.year % 100 / 10) 0
  | 45 => digitBit (ts.year % 10) 3
  | 46 => digitBit (ts.year % 10) 2
  | 47 => digitBit (ts.year % 10) 1
  | 48 => digitBit (ts.year % 10) 0
  | 50 => digitBit (ts.weekday % 7) 2
  | 51 => digitBit (ts.weekday % 7) 1
  | 52 => digitBit (ts.weekday % 7) 0
  | _ => 0

/-- The content column of R193 for WWVB: index 40 is the leap-year flag of R197. -/
def wwvbSlot (ts : TimeSample) (i : Nat) : SymCode :=
  if i = 40 then
    (if (ts.year % 4 = 0 ∧ ts.year % 100 ≠ 0) ∨ ts.year % 400 = 0 then 1 else 0)
  else jjySlot ts i

/-- The content column of R235 but for the two check symbols p3 and p4. -/
def bpcData (ts : TimeSample) : Nat → SymCode
  | 0 => BitVec.ofNat 2 (ts.second / 20)
  | 2 => digit4 (if 12 ≤ ts.hour then ts.hour - 12 else ts.hour) 1
  | 3 => digit4 (if 12 ≤ ts.hour then ts.hour - 12 else ts.hour) 0
  | 4 => digit4 ts.minute 2
  | 5 => digit4 ts.minute 1
  | 6 => digit4 ts.minute 0
  | 7 => digit4 ts.weekday 1
  | 8 => digit4 ts.weekday 0
  | 10 => digit4 ts.day 2
  | 11 => digit4 ts.day 1
  | 12 => digit4 ts.day 0
  | 13 => digit4 ts.month 1
  | 14 => digit4 ts.month 0
  | 15 => digit4 (ts.year % 100) 2
  | 16 => digit4 (ts.year % 100) 1
  | 17 => digit4 (ts.year % 100) 0
  | _ => 0

/-- The content column of R235. -/
def bpcSlot (ts : TimeSample) (i : Nat) : SymCode :=
  if i = 9 then BitVec.ofNat 2 (onesFrom (bpcData ts) 0 9 % 2 + (if 12 ≤ ts.hour then 2 else 0))
  else if i = 18 then BitVec.ofNat 2 (onesFrom (bpcData ts) 10 8 % 2)
  else bpcData ts i

/-! ### States after a BUILD -/

/-- What a failed BUILD leaves (R331): STATUS with the error, no frame, SYM_OUT and PULSE 0, the rest as before. -/
def buildFailed (err : BitVec 3) (index : BitVec 8) (s : State) : State :=
  { s with
    status := { err := err, trunc := false, errIndex := index }
    frame := Vector.replicate 60 0
    frameInfo := { len := 0, fstd := 0, valid := false, rdPtr := 0 }
    symOut := { sym := 0, index := 0, std := 0 }
    pulse := { activeMs := 0, activeOn := .inert, steadyOn := .inert } }

/-- What a successful BUILD leaves (R190, R330): the slots in entries 0..len-1, 0 above, a fresh FRAME_INFO, SYM_OUT and
PULSE 0, the rest as before. -/
def buildDone (std : BitVec 2) (len : Nat) (slot : Nat → SymCode) (trunc : Bool) (s : State) : State :=
  { s with
    status := { err := 0, trunc := trunc, errIndex := 0 }
    frame := Vector.ofFn fun i : Fin 60 => if i.val < len then slot i.val else 0
    frameInfo := { len := BitVec.ofNat 8 len, fstd := std, valid := true, rdPtr := 0 }
    symOut := { sym := 0, index := 0, std := 0 }
    pulse := { activeMs := 0, activeOn := .inert, steadyOn := .inert } }

/-! ### Legal states -/

/-- The code at a frame index, 0 past the buffer. -/
def slotOf (s : State) (i : Nat) : SymCode := if h : i < 60 then s.frame[i] else 0

/-- R31's invariants of FRAME_INFO. -/
structure FrameInfoLegal (s : State) : Prop where
  /-- VALID = 1 exactly when LEN is not 0. -/
  valid_iff : s.frameInfo.valid = true ↔ s.frameInfo.len ≠ 0
  /-- LEN = 60 for a JJY or WWVB frame and 19 for a BPC frame; there is no other standard. -/
  len_of_valid : s.frameInfo.valid = true →
    (s.frameInfo.len = 60 ∧ (s.frameInfo.fstd = 0 ∨ s.frameInfo.fstd = 1))
      ∨ (s.frameInfo.len = 19 ∧ s.frameInfo.fstd = 2)
  /-- With no frame, FSTD and RD_PTR are 0. -/
  none_held : s.frameInfo.valid = false → s.frameInfo.fstd = 0 ∧ s.frameInfo.rdPtr = 0
  /-- RD_PTR never passes LEN. -/
  rdPtr_le : s.frameInfo.rdPtr.toNat ≤ s.frameInfo.len.toNat

/-- What the frame buffer holds, for the frame FRAME_INFO describes. -/
structure FrameLegal (s : State) : Prop where
  /-- R34: entries at and past LEN are 0. -/
  tail_zero : ∀ i, s.frameInfo.len.toNat ≤ i → slotOf s i = 0
  /-- R191: a JJY or WWVB frame has Marker at exactly the seven indices, Zero or One elsewhere. -/
  markers : s.frameInfo.valid = true → s.frameInfo.fstd ≠ 2 →
    ∀ i, i < 60 → (if i ∈ markerIndices then slotOf s i = 2 else slotOf s i = 0 ∨ slotOf s i = 1)
  /-- R223, R224: p1 of a BPC frame is 0, 1 or 2, and p2 is 0. -/
  bpc_head : s.frameInfo.fstd = 2 → slotOf s 0 ≠ 3 ∧ slotOf s 1 = 0
  /-- R236: bit 0 of p3 is the checksum of indices 0..8. -/
  bpc_p3 : s.frameInfo.fstd = 2 → (slotOf s 9).toNat % 2 = onesFrom (slotOf s) 0 9 % 2
  /-- R236: p4 is the checksum of indices 10..17. -/
  bpc_p4 : s.frameInfo.fstd = 2 → (slotOf s 18).toNat = onesFrom (slotOf s) 10 8 % 2

/-- The frame indices R322 names for an overflow: 1, 12 and 22 of JJY and WWVB, 2, 4, 7, 10, 13 and 15 of BPC. -/
def overflowIndices : List (BitVec 8) := [1, 12, 22, 2, 4, 7, 10, 13, 15]

/-- STATUS as a command can leave it (R24, R25, R322, R330, R331). -/
structure StatusLegal (s : State) : Prop where
  /-- The codes 5 to 7 are never produced. -/
  err_le : s.status.err.toNat ≤ 4
  /-- TRUNC is 0 after an error. -/
  trunc_clear : s.status.err ≠ 0 → s.status.trunc = false
  /-- ERR_INDEX is 0 but after an overflow, where it is 0 or a field's first index. -/
  index_of_overflow : s.status.errIndex ≠ 0 → s.status.err = 2 ∧ s.status.errIndex ∈ overflowIndices

/-- SYM_OUT and PULSE as commands can leave them (R32, R33, R270). -/
structure OutputLegal (s : State) : Prop where
  /-- SYM_OUT is 0 or a symbol of the held frame. -/
  sym_of_frame : s.symOut = { sym := 0, index := 0, std := 0 } ∨
    (s.frameInfo.valid = true ∧ s.symOut.std = s.frameInfo.fstd
      ∧ s.symOut.index.toNat < s.frameInfo.len.toNat ∧ s.symOut.sym = slotOf s s.symOut.index.toNat)
  /-- PULSE is 0 or the profile of a symbol of a standard. -/
  pulse_of_table : s.pulse.toWord = 0 ∨
    ∃ std code, pulseTable std code ≠ 0 ∧ s.pulse.toWord = pulseTable std code

/-- The states a reset machine keeps itself in. -/
structure Legal (s : State) : Prop where
  /-- FRAME_INFO. -/
  info : FrameInfoLegal s
  /-- The frame buffer. -/
  frame : FrameLegal s
  /-- STATUS. -/
  status : StatusLegal s
  /-- SYM_OUT and PULSE. -/
  output : OutputLegal s

/-! ### Repetition -/

/-- Execute one command `k` times, stopping at the first fault or refusal. -/
def execRepeat (i : Instr) : Nat → State → Host.Outcome State Fault Refusal
  | 0, s => .next s
  | k + 1, s =>
    match exec i s with
    | .next t => execRepeat i k t
    | .fault r => .fault r
    | .refused r => .refused r

end Sys2Proof.Safety
end

