-- ==== Sys2Proof/Certificates/Slice0/Obligations.lean ====
section
/-! DEFINITION. The statements about the TSE model, each from the numbered rules it cites. -/

open Sys2Proof Sys2Proof.Machine Sys2Proof.Safety

/-! ### Command words -/

/-- A few words of R91 decode to the commands they stand for. -/
def Obligations.SampleWordsDecode : Prop :=
  decode 0x00000000 = .ok .nop ∧ decode 0x00000002 = .ok .quat ∧ decode 0x00000018 = .ok .buildWwvb
    ∧ decode 0x00000029 = .ok .mapBpc ∧ decode 0x0000000A = .ok .pop ∧ decode 0x0000000F = .ok .softReset

/-- The encoder gives R91's CMD word for every command. -/
def Obligations.EncoderWritesTableWords : Prop := ∀ i, encode i = commandWord i

/-- Decoding an encoded command gives it back, as a word and from its byte lanes. -/
def Obligations.DecodeEncodeRoundTrip : Prop :=
  ∀ i, decode (encode i) = .ok i ∧ decodeBytes (lanesOfWord (encode i)) = .ok i

/-- R91: of all 2^32 words, the 14 of the table are the legal commands, each with one meaning. -/
def Obligations.OnlyTableWordsDecode : Prop := ∀ v i, decode v = .ok i ↔ v = commandWord i

/-- R92 to R96: every word is either well formed and decodes, or is rejected under the name of the rule that forbids it,
in R96's order. -/
def Obligations.IllegalWordsAreRejectedByName : Prop :=
  ∀ v : Word,
    (64 ≤ v.toNat → decode v = .error .reservedBits)
    ∧ (v.toNat = 0x38 ∨ v.toNat = 0x39 → decode v = .error .reservedStandard)
    ∧ (16 ≤ v.toNat → v.toNat < 64 → v.toNat % 16 ≠ 8 → v.toNat % 16 ≠ 9 → decode v = .error .strayStandard)
    ∧ (v.toNat ∈ [0x5, 0x6, 0x7, 0xC, 0xD, 0xE] → decode v = .error .unassignedOp)
    ∧ ((∃ i, decode v = .ok i) ↔ (cmdFields v).wellFormed = true)

/-- R65: lane k carries bits [8k+7:8k], and the four lanes give the word back. R90, R99: nothing but four lanes decodes. -/
def Obligations.LanesAreLittleEndian : Prop :=
  (∀ (v : Word) (k : Nat), k < 4 → (lanesOfWord v)[k]? = some (BitVec.ofNat 8 (v.toNat / 2 ^ (8 * k))))
  ∧ (∀ v, wordOfLanes (lanesOfWord v) = some v)
  ∧ (∀ bs, bs.length ≠ 4 → decodeBytes bs = .error .wrongLength)

/-! ### Steps and the bus -/

/-- R300: a step whose event writes a word to CMD that decodes to `i` runs `i` to its end and answers OK; a word that
does not decode sets STATUS to ILLEGAL_COMMAND and is answered OK too. MODEL'S CHOICE: the event list and the answer are
the model's own fields (entries 1, 2 and 14). -/
def Obligations.StepRunsDecodedCommand : Prop :=
  ∀ (s : State) (rest : List HostEvent) (v : Word),
    (∀ i, decode v = .ok i →
      step { s with pending := .write 0x000 4 v :: rest } =
        match exec i { s with pending := rest } with
        | .next t => .next { t with response := .ok }
        | .fault r => .fault r
        | .refused r => .refused r)
    ∧ ∀ e, decode v = .error e →
      step { s with pending := .write 0x000 4 v :: rest } =
        .next { s with
          pending := rest
          response := .ok
          status := { err := 3, trunc := false, errIndex := 0 } }

/-- R92 to R95: executing a word that is reserved, stray, of standard 3 or unassigned is ILLEGAL_COMMAND, and changes
nothing but STATUS. -/
def Obligations.IllegalWordSetsStatusOnly : Prop :=
  ∀ (s : State) (v : Word),
    v.extractLsb' 6 26 ≠ 0
      ∨ (v.extractLsb' 0 4 ≠ 8#4 ∧ v.extractLsb' 0 4 ≠ 9#4 ∧ v.extractLsb' 4 2 ≠ 0#2)
      ∨ ((v.extractLsb' 0 4 = 8#4 ∨ v.extractLsb' 0 4 = 9#4) ∧ v.extractLsb' 4 2 = 3#2)
      ∨ v.extractLsb' 0 4 ∈ [0x5#4, 0x6#4, 0x7#4, 0xC#4, 0xD#4, 0xE#4] →
    runCommand v s = .next { s with status := { err := 3, trunc := false, errIndex := 0 } }

/-- R70, R300, R388: every step completes, and serves exactly the oldest pending event. MODEL'S CHOICE: the list of
pending events is the model's own field (entry 1). -/
def Obligations.EveryStepCompletes : Prop :=
  ∀ s : State, ∃ t, step s = .next t ∧ t.pending = s.pending.tail

/-- R40: after reset every register and every frame entry is 0. -/
def Obligations.ResetStateIsZero : Prop := ∀ r, registerValue State.reset r = 0

/-- R360: the reset input, applied to any state, leaves every register and every frame entry 0. MODEL'S CHOICE: it is
one of the pending events and answers nothing (entries 1 and 2). -/
def Obligations.ResetInputZeroesRegisters : Prop :=
  ∀ (s : State) (rest : List HostEvent), ∃ t,
    step { s with pending := .reset :: rest } = .next t
      ∧ (∀ r, registerValue t r = 0) ∧ t.pending = rest ∧ t.response = .none

/-- R361: nothing of the unspecified power-up values survives the first reset. MODEL'S CHOICE: those values are free
(entry 7), and the reset is one of the pending events (entry 1). -/
def Obligations.FirstResetEndsPowerUp : Prop :=
  ∀ rest : List HostEvent, step (State.powerUp (.reset :: rest)) = .next { State.reset with pending := rest }

/-- R62, R63, R64, R325: an access of another width, misaligned or unmapped draws a bus error and changes no register.
MODEL'S CHOICE: the error is the value of a field of the model's own, not a fault (entry 3). -/
def Obligations.BusErrorChangesNothing : Prop :=
  ∀ (s : State) (rest : List HostEvent) (off : Offset) (size : Nat) (v : Word),
    (size ≠ 4 ∨ off.toNat % 4 ≠ 0 ∨ (0x30 ≤ off.toNat ∧ off.toNat < 0x100) ∨ 0x1F0 ≤ off.toNat) →
    step { s with pending := .read off size :: rest } = .next { s with pending := rest, response := .busError }
    ∧ step { s with pending := .write off size v :: rest } = .next { s with pending := rest, response := .busError }

/-- R21, R22, R24 to R34: a 32-bit read at a register's offset returns its fields at their places, reserved bits 0,
and changes nothing. MODEL'S CHOICE: the event list and the answer are the model's own fields (entries 1 and 2). -/
def Obligations.ReadsReturnFieldTables : Prop :=
  ∀ (s : State) (rest : List HostEvent) (r : Reg),
    step { s with pending := .read (BitVec.ofNat 9 (regOffset r)) 4 :: rest } =
      .next { s with pending := rest, response := .data (BitVec.ofNat 32 (registerValue s r)) }

/-- R22, R26, R27, R28: a 32-bit write to a register other than CMD stores the bits of that register's fields if it is
read/write, stores nothing if it is read-only, leaves every other register as it was, and is answered OK. MODEL'S CHOICE:
the event list and the answer are the model's own fields (entries 1 and 2). -/
def Obligations.WritesStoreFieldsOnly : Prop :=
  ∀ (s : State) (rest : List HostEvent) (r : Reg) (v : Word), r ≠ .cmd → ∃ t,
    step { s with pending := .write (BitVec.ofNat 9 (regOffset r)) 4 v :: rest } = .next t
      ∧ t.pending = rest ∧ t.response = .ok
      ∧ ∀ r', registerValue t r' =
          if r' = r ∧ storedBits r ≠ 0 then (v &&& storedBits r).toNat else registerValue s r'

/-- R67: a read changes no register, and the same read again answers the same. MODEL'S CHOICE: the event list and the
answer are the model's own fields (entries 1 and 2). -/
def Obligations.ReadsHaveNoSideEffect : Prop :=
  ∀ (s : State) (rest : List HostEvent) (off : Offset) (size : Nat), ∃ a,
    step { s with pending := .read off size :: .read off size :: rest } =
      .next { s with pending := .read off size :: rest, response := a }
    ∧ step { s with pending := .read off size :: rest, response := a } =
      .next { s with pending := rest, response := a }

/-- R61: `TSE_BASE` is a multiple of 512, so the low 9 bits of an address in the aperture are its offset. MODEL'S
CHOICE: `TSE_BASE` is 512 times a free value (entry 5). -/
def Obligations.AddressGivesOffset : Prop :=
  Config.tseBase % 512 = 0 ∧ ∀ off : Nat, off < 512 → (offsetOfAddress (Config.tseBase + off)).toNat = off

/-- R345, R388: with no host event pending nothing changes. MODEL'S CHOICE of what such a step is (entry 4). -/
def Obligations.IdleStepChangesNothing : Prop :=
  ∀ s : State, step { s with pending := [] } = .next { s with pending := [] }

/-! ### Control commands -/

/-- R305: NOP writes nothing, STATUS included; OP 0 with another STD is no NOP. -/
def Obligations.NopChangesNothing : Prop :=
  decode 0x00000000 = .ok .nop
    ∧ (∀ v : Word, v ∈ [0x00000010, 0x00000020, 0x00000030] → (decode v).toOption = none)
    ∧ ∀ s : State, exec .nop s = .next s

/-- R306, R360, R40: SOFT_RESET leaves every register and frame entry 0, and they are then as the reset input leaves them.
MODEL'S CHOICE: the reset input is one of the pending events, and those events and the answer are the model's own fields,
which SOFT_RESET keeps (entries 1 and 2). -/
def Obligations.SoftResetIsReset : Prop :=
  decode 0x0000000F = .ok .softReset ∧
  ∀ (s : State) (rest : List HostEvent), ∃ t,
    exec .softReset s = .next t ∧ (∀ r, registerValue t r = 0)
      ∧ t.pending = s.pending ∧ t.response = s.response
      ∧ ∃ u, step { s with pending := .reset :: rest } = .next u ∧ u.toRegs = t.toRegs

/-! ### Primitives -/

/-- R132 with R131: BCD, in every case. -/
def Obligations.BcdResult : Prop :=
  decode 0x00000001 = .ok .bcd ∧
  ∀ s : State, exec .bcd s = .next (
    if s.argW.toNat < 1 ∨ 16 < s.argW.toNat then
      { s with status := { err := 3, trunc := false, errIndex := 0 } }
    else if s.argN.toNat < 2 ^ s.argW.toNat then
      { s with result := s.argN, status := { err := 0, trunc := false, errIndex := 0 } }
    else if s.truncEn then
      { s with
        result := BitVec.ofNat 16 (s.argN.toNat % 2 ^ s.argW.toNat)
        status := { err := 0, trunc := true, errIndex := 0 } }
    else { s with status := { err := 2, trunc := false, errIndex := 0 } })

/-- R137 with R136: QUAT, in every case. -/
def Obligations.QuatResult : Prop :=
  decode 0x00000002 = .ok .quat ∧
  ∀ s : State, exec .quat s = .next (
    if s.argW.toNat < 1 ∨ 8 < s.argW.toNat then
      { s with status := { err := 3, trunc := false, errIndex := 0 } }
    else if s.argN.toNat < 4 ^ s.argW.toNat then
      { s with result := s.argN, status := { err := 0, trunc := false, errIndex := 0 } }
    else if s.truncEn then
      { s with
        result := BitVec.ofNat 16 (s.argN.toNat % 4 ^ s.argW.toNat)
        status := { err := 0, trunc := true, errIndex := 0 } }
    else { s with status := { err := 2, trunc := false, errIndex := 0 } })

/-- R142: PARITY counts the 1 bits among the low W bits of N. -/
def Obligations.ParityResult : Prop :=
  decode 0x00000003 = .ok .parity ∧
  ∀ s : State, exec .parity s = .next (
    if s.argW.toNat < 1 ∨ 16 < s.argW.toNat then
      { s with status := { err := 3, trunc := false, errIndex := 0 } }
    else
      { s with
        result := BitVec.ofNat 16 (((List.range s.argW.toNat).filter fun k => s.argN.getLsbD k).length % 2)
        status := { err := 0, trunc := false, errIndex := 0 } })

/-- R143: CHECKSUM is PARITY under its own command word. With k <= 8 BPC symbols packed most significant first and
W = 2k, the result is the checksum of the symbols. -/
def Obligations.ChecksumResult : Prop :=
  decode 0x00000004 = .ok .checksum
  ∧ (∀ s : State, exec .checksum s = .next (
      if s.argW.toNat < 1 ∨ 16 < s.argW.toNat then
        { s with status := { err := 3, trunc := false, errIndex := 0 } }
      else
        { s with
          result := BitVec.ofNat 16 (((List.range s.argW.toNat).filter fun k => s.argN.getLsbD k).length % 2)
          status := { err := 0, trunc := false, errIndex := 0 } }))
  ∧ ∀ (s : State) (c : List SymCode), 1 ≤ c.length → c.length ≤ 8 →
      s.argN.toNat = ((List.range c.length).map fun i => (c.getD i 0).toNat * 4 ^ (c.length - 1 - i)).sum →
      s.argW.toNat = 2 * c.length →
      exec .checksum s = .next
        { s with
          result := BitVec.ofNat 16 ((c.map ones).sum % 2)
          status := { err := 0, trunc := false, errIndex := 0 } }

/-- R147: reading the digits of n gives back n where n fits, and n reduced where it does not. -/
def Obligations.DigitsRoundTrip : Prop :=
  ∀ w n : Nat,
    (binW w n).length = w ∧ (quatW w n).length = w
    ∧ bitsValue (binW w n) = n % 2 ^ w ∧ digitsValue (quatW w n) = n % 4 ^ w

/-- R145: flipping any one bit of a sequence flips its parity. -/
def Obligations.BitFlipFlipsParity : Prop :=
  ∀ (bits : List Bool) (i : Nat) (h : i < bits.length), parity (bits.set i !bits[i]) = !parity bits

/-- R146: the parity of a concatenation is the XOR of the parities; the same for the checksum. -/
def Obligations.ParityOfConcatenation : Prop :=
  ∀ a b : List Bool, parity (a ++ b) = (parity a != parity b) ∧ checksum (a ++ b) = (checksum a != checksum b)

/-! ### Frames -/

/-- R170, R192, R193: BUILD.JJY in every case: phase error, the three overflows in R192's order, or the JJY frame of
R193's table. -/
def Obligations.BuildJjyBuildsTable : Prop :=
  decode 0x00000008 = .ok .buildJjy ∧
  ∀ s : State, exec .buildJjy s = .next (
    let ts := timeSample s
    if ts.second ≠ 0 then buildFailed 1 0 s
    else if s.truncEn = false ∧ 80 ≤ ts.minute then buildFailed 2 1 s
    else if s.truncEn = false ∧ 40 ≤ ts.hour then buildFailed 2 12 s
    else if s.truncEn = false ∧ 400 ≤ ts.yday then buildFailed 2 22 s
    else buildDone 0 60 (jjySlot ts) (decide (80 ≤ ts.minute ∨ 40 ≤ ts.hour ∨ 400 ≤ ts.yday)) s)

/-- R195, R196, R197: BUILD.WWVB in every case. MODEL'S CHOICE: the leap-year flag stands at index 40, the default of
WWVB_LY_INDEX (entry 6), and follows the leap-year rule that R197 takes from general knowledge (entry 13). -/
def Obligations.BuildWwvbBuildsTable : Prop :=
  decode 0x00000018 = .ok .buildWwvb ∧
  ∀ s : State, exec .buildWwvb s = .next (
    let ts := timeSample s
    if ts.second ≠ 0 then buildFailed 1 0 s
    else if s.truncEn = false ∧ 80 ≤ ts.minute then buildFailed 2 1 s
    else if s.truncEn = false ∧ 40 ≤ ts.hour then buildFailed 2 12 s
    else if s.truncEn = false ∧ 400 ≤ ts.yday then buildFailed 2 22 s
    else buildDone 1 60 (wwvbSlot ts) (decide (80 ≤ ts.minute ∨ 40 ≤ ts.hour ∨ 400 ≤ ts.yday)) s)

/-- R220, R221, R234, R235: BUILD.BPC in every case: phase error, the six overflows in R234's order, or the frame of
R235's table. -/
def Obligations.BuildBpcBuildsTable : Prop :=
  decode 0x00000028 = .ok .buildBpc ∧
  ∀ s : State, exec .buildBpc s = .next (
    let ts := timeSample s
    if ts.second ≠ 0 ∧ ts.second ≠ 20 ∧ ts.second ≠ 40 then buildFailed 1 0 s
    else if s.truncEn = false ∧ 28 ≤ ts.hour then buildFailed 2 2 s
    else if s.truncEn = false ∧ 64 ≤ ts.minute then buildFailed 2 4 s
    else if s.truncEn = false ∧ 16 ≤ ts.weekday then buildFailed 2 7 s
    else if s.truncEn = false ∧ 64 ≤ ts.day then buildFailed 2 10 s
    else if s.truncEn = false ∧ 16 ≤ ts.month then buildFailed 2 13 s
    else if s.truncEn = false ∧ 64 ≤ ts.year % 100 then buildFailed 2 15 s
    else buildDone 2 19 (bpcSlot ts)
      (decide (28 ≤ ts.hour ∨ 64 ≤ ts.minute ∨ 16 ≤ ts.weekday ∨ 64 ≤ ts.day ∨ 16 ≤ ts.month
        ∨ 64 ≤ ts.year % 100)) s)

/-- R191: a frame BUILD.JJY or BUILD.WWVB commits has Marker at exactly the seven indices, Zero or One elsewhere. -/
def Obligations.MarkersOfBuiltFrames : Prop :=
  ∀ (i : Instr) (s t : State), i = .buildJjy ∨ i = .buildWwvb → exec i s = .next t → t.status.err = 0 →
    ∀ k, k < 60 →
      if k ∈ [0, 9, 19, 29, 39, 49, 59] then slotOf t k = 2 else slotOf t k = 0 ∨ slotOf t k = 1

/-- R196, R197, R198: BUILD.WWVB reports what BUILD.JJY reports and builds the same frame but for index 40, the leap-year
flag. MODEL'S CHOICE: WWVB_LY_INDEX is its default 40 (entry 6), and the flag follows the leap-year rule that R197 takes
from general knowledge (entry 13). -/
def Obligations.WwvbDiffersAtLeapSlotOnly : Prop :=
  ∀ s : State, ∃ j w,
    exec .buildJjy s = .next j ∧ exec .buildWwvb s = .next w ∧ w.status = j.status
      ∧ (∀ k, k ≠ 40 → slotOf w k = slotOf j k)
      ∧ (j.status.err = 0 → slotOf w 40 =
          let y := s.tsDate.year.toNat
          if (y % 4 = 0 ∧ y % 100 ≠ 0) ∨ y % 400 = 0 then 1 else 0)

/-- R236: the checksum laws of every frame BUILD.BPC commits. -/
def Obligations.BpcChecksumLaws : Prop :=
  ∀ s t : State, exec .buildBpc s = .next t → t.status.err = 0 →
    (slotOf t 9).toNat % 2 = onesFrom (slotOf t) 0 9 % 2
    ∧ (slotOf t 9).toNat / 2 = (if 12 ≤ s.tsTime.hour.toNat then 1 else 0)
    ∧ (slotOf t 18).toNat = onesFrom (slotOf t) 10 8 % 2

/-- R241: the frames of seconds 0, 20 and 40 of one minute differ at indices 0 and 9 only: p1 is 0, 1 and 2, p3 is the
same at 20 and 40, and its bit 0 there is the inverse of that at 0. -/
def Obligations.BpcThirdsOfOneMinute : Prop :=
  ∀ s a b c : State,
    exec .buildBpc { s with tsTime := { s.tsTime with second := 0 } } = .next a →
    exec .buildBpc { s with tsTime := { s.tsTime with second := 20 } } = .next b →
    exec .buildBpc { s with tsTime := { s.tsTime with second := 40 } } = .next c →
    a.status.err = 0 →
      b.status.err = 0 ∧ c.status.err = 0
      ∧ (∀ k, k ≠ 0 → k ≠ 9 → slotOf b k = slotOf a k ∧ slotOf c k = slotOf a k)
      ∧ slotOf a 0 = 0 ∧ slotOf b 0 = 1 ∧ slotOf c 0 = 2
      ∧ slotOf b 9 = slotOf c 9
      ∧ (slotOf b 9).toNat % 2 = 1 - (slotOf a 9).toNat % 2
      ∧ (slotOf b 9).toNat / 2 = (slotOf a 9).toNat / 2

/-- R200, R39: a BUILD's outcome depends on the TS fields and TRUNC_EN alone, whatever came before. -/
def Obligations.BuildDependsOnSampleOnly : Prop :=
  ∀ (i : Instr) (s s' : State), isBuild i = true →
    s.tsDate = s'.tsDate → s.tsTime = s'.tsTime → s.tsYday = s'.tsYday → s.truncEn = s'.truncEn →
    ∃ t t', exec i s = .next t ∧ exec i s' = .next t' ∧ t.status = t'.status
      ∧ t.frameInfo = t'.frameInfo ∧ t.frame = t'.frame

/-- R39: TRUNC_EN changes a BUILD only where some field overflows: without ENCODING_OVERFLOW under Fail, both policies
do the same. -/
def Obligations.PolicyMattersOnOverflowOnly : Prop :=
  ∀ (i : Instr) (s t : State), isBuild i = true →
    exec i { s with truncEn := false } = .next t → t.status.err ≠ 2 →
    exec i { s with truncEn := true } = .next { t with truncEn := true }

/-- R190, R31 to R34, R191, R236: whatever state it starts from, a BUILD leaves a legal one; a successful BUILD leaves a
frame with its first symbol next. -/
def Obligations.BuildLeavesLegalFrame : Prop :=
  ∀ (i : Instr) (s t : State), isBuild i = true → exec i s = .next t →
    Legal t ∧ (t.status.err = 0 → t.frameInfo.valid = true ∧ t.frameInfo.rdPtr = 0)

/-- R331, D17: after a failed BUILD no frame is left, so a POP reports FRAME_EXHAUSTED and changes only STATUS. -/
def Obligations.FailedBuildLeavesNothingToPop : Prop :=
  ∀ (i : Instr) (s t : State), isBuild i = true → exec i s = .next t → t.status.err ≠ 0 →
    exec .pop t = .next { t with status := { err := 4, trunc := false, errIndex := 0 } }

/-! ### Mapper and read port -/

/-- R265 with R261: MAP.JJY in every case. -/
def Obligations.MapJjyProfile : Prop :=
  decode 0x00000009 = .ok .mapJjy ∧
  ∀ s : State, exec .mapJjy s = .next (
    if 2 < s.argN.toNat then { s with status := { err := 3, trunc := false, errIndex := 0 } }
    else
      { s with
        pulse := .ofWord (if s.argN = 0 then 0x00001320 else if s.argN = 1 then 0x000011F4 else 0x000010C8)
        status := { err := 0, trunc := false, errIndex := 0 } })

/-- R266 with R262: MAP.WWVB in every case. -/
def Obligations.MapWwvbProfile : Prop :=
  decode 0x00000019 = .ok .mapWwvb ∧
  ∀ s : State, exec .mapWwvb s = .next (
    if 2 < s.argN.toNat then { s with status := { err := 3, trunc := false, errIndex := 0 } }
    else
      { s with
        pulse := .ofWord (if s.argN = 0 then 0x000020C8 else if s.argN = 1 then 0x000021F4 else 0x00002320)
        status := { err := 0, trunc := false, errIndex := 0 } })

/-- R267 with R263: MAP.BPC in every case. -/
def Obligations.MapBpcProfile : Prop :=
  decode 0x00000029 = .ok .mapBpc ∧
  ∀ s : State, exec .mapBpc s = .next (
    if 3 < s.argN.toNat then { s with status := { err := 3, trunc := false, errIndex := 0 } }
    else
      { s with
        pulse := .ofWord (if s.argN = 0 then 0x00002064 else if s.argN = 1 then 0x000020C8
          else if s.argN = 2 then 0x0000212C else 0x00002190)
        status := { err := 0, trunc := false, errIndex := 0 } })

/-- R270: a POP of a legal state delivers the next symbol with its profile and advances RD_PTR by exactly 1, or reports
FRAME_EXHAUSTED where there is none. -/
def Obligations.PopDeliversNextSymbol : Prop :=
  decode 0x0000000A = .ok .pop ∧
  ∀ s : State, Legal s →
    let c := slotOf s s.frameInfo.rdPtr.toNat
    exec .pop s = .next (
      if s.frameInfo.valid = false ∨ s.frameInfo.len.toNat ≤ s.frameInfo.rdPtr.toNat then
        { s with status := { err := 4, trunc := false, errIndex := 0 } }
      else
        { s with
          symOut := { sym := c, index := s.frameInfo.rdPtr, std := s.frameInfo.fstd }
          pulse := .ofWord (pulseTable s.frameInfo.fstd c)
          frameInfo := { s.frameInfo with rdPtr := s.frameInfo.rdPtr + 1 }
          status := { err := 0, trunc := false, errIndex := 0 } })
    ∧ (s.frameInfo.valid = true → s.frameInfo.rdPtr.toNat < s.frameInfo.len.toNat →
        pulseTable s.frameInfo.fstd c ≠ 0 ∧ (s.frameInfo.rdPtr + 1).toNat = s.frameInfo.rdPtr.toNat + 1)

/-- R324, R271: in every state, a POP with no frame or no symbol left reports FRAME_EXHAUSTED and changes only STATUS. -/
def Obligations.PopExhaustedChangesStatusOnly : Prop :=
  ∀ s : State, s.frameInfo.valid = false ∨ s.frameInfo.len.toNat ≤ s.frameInfo.rdPtr.toNat →
    exec .pop s = .next { s with status := { err := 4, trunc := false, errIndex := 0 } }

/-- POP in every state with a symbol left, those before the first reset included: it completes, and only a symbol past
the buffer or a profile no table gives is a free value. MODEL'S CHOICE for those two (entry 8). -/
def Obligations.PopCompletesInEveryState : Prop :=
  ∀ s : State, s.frameInfo.valid = true → s.frameInfo.rdPtr.toNat < s.frameInfo.len.toNat →
    ∃ c p,
      exec .pop s = .next
        { s with
          symOut := { sym := c, index := s.frameInfo.rdPtr, std := s.frameInfo.fstd }
          pulse := p
          frameInfo := { s.frameInfo with rdPtr := s.frameInfo.rdPtr + 1 }
          status := { err := 0, trunc := false, errIndex := 0 } }
      ∧ (s.frameInfo.rdPtr.toNat < 60 → c = slotOf s s.frameInfo.rdPtr.toNat)
      ∧ (pulseTable s.frameInfo.fstd c ≠ 0 → p = .ofWord (pulseTable s.frameInfo.fstd c))

/-- R272: from a legal state at the start of a frame of length L, POP number k+1 delivers FRAME[k] for every k < L, and
POP number L+1 fails with FRAME_EXHAUSTED. -/
def Obligations.PopsDeliverFrameInOrder : Prop :=
  ∀ s : State, Legal s → s.frameInfo.valid = true → s.frameInfo.rdPtr = 0 →
    (∀ k, k < s.frameInfo.len.toNat → ∃ t,
      execRepeat .pop (k + 1) s = .next t
        ∧ t.status = { err := 0, trunc := false, errIndex := 0 }
        ∧ t.symOut = { sym := slotOf s k, index := BitVec.ofNat 8 k, std := s.frameInfo.fstd }
        ∧ t.pulse.toWord = pulseTable s.frameInfo.fstd (slotOf s k)
        ∧ t.frame = s.frame)
    ∧ ∃ t, execRepeat .pop (s.frameInfo.len.toNat + 1) s = .next t
        ∧ t.status = { err := 4, trunc := false, errIndex := 0 }
        ∧ t.frameInfo = { s.frameInfo with rdPtr := s.frameInfo.len }

/-- R275: REWIND sets RD_PTR to 0, with or without a frame, and changes nothing else but STATUS. With no frame, RD_PTR
is 0 already. -/
def Obligations.RewindRestartsDelivery : Prop :=
  decode 0x0000000B = .ok .rewind
  ∧ (∀ s : State, exec .rewind s = .next
      { s with
        frameInfo := { s.frameInfo with rdPtr := 0 }
        status := { err := 0, trunc := false, errIndex := 0 } })
  ∧ ∀ s : State, FrameInfoLegal s → s.frameInfo.valid = false → s.frameInfo.rdPtr = 0

/-! ### Rules about every command -/

/-- R26, R27, R28, R30 to R34, R38: every command completes, and changes no register outside those its rules let it
write; the host's side of the bus, two fields of the model's own (entries 1 and 2), is untouched. -/
def Obligations.CommandsWriteOnlyTheirRegisters : Prop :=
  ∀ (i : Instr) (s : State), ∃ t,
    exec i s = .next t ∧ t.pending = s.pending ∧ t.response = s.response
      ∧ ∀ r, mayWrite i r = false → registerValue t r = registerValue s r

/-- R24, R25, R330, R331: whatever STATUS held before, every command but NOP leaves a legal one: ERR at most 4, TRUNC 0
with an error, ERR_INDEX 0 but for an overflow of a frame field. -/
def Obligations.EveryCommandLeavesLegalStatus : Prop :=
  ∀ (i : Instr) (s t : State), i ≠ .nop → exec i s = .next t → StatusLegal t

/-- R331: an error is all or nothing: STATUS is all a failing command writes, but that a failed BUILD also discards the
frame. An illegal word is no BUILD: it writes STATUS alone. -/
def Obligations.ErrorsAreAllOrNothing : Prop :=
  (∀ (i : Instr) (s t : State), i ≠ .nop → exec i s = .next t → t.status.err ≠ 0 →
    t = if isBuild i = true then buildFailed t.status.err t.status.errIndex s
        else { s with status := { err := t.status.err, trunc := false, errIndex := 0 } })
  ∧ ∀ (v : Word) (e : DecodeError) (s : State), decode v = .error e →
    runCommand v s = .next { s with status := { err := 3, trunc := false, errIndex := 0 } }

/-- R36: RD_PTR is set to 0 by every BUILD, REWIND and SOFT_RESET, advanced by exactly 1 by every successful POP, never
past 255, and kept by everything else. -/
def Obligations.RdPtrAdvancesByPopOnly : Prop :=
  ∀ (i : Instr) (s t : State), exec i s = .next t →
    (isBuild i = true ∨ i = .rewind ∨ i = .softReset → t.frameInfo.rdPtr = 0)
    ∧ (i = .pop → t.status.err = 0 → t.frameInfo.rdPtr.toNat = s.frameInfo.rdPtr.toNat + 1)
    ∧ (i = .pop → t.status.err ≠ 0 → t.frameInfo.rdPtr = s.frameInfo.rdPtr)
    ∧ (isBuild i = false → i ≠ .rewind → i ≠ .softReset → i ≠ .pop → t.frameInfo.rdPtr = s.frameInfo.rdPtr)

/-! ### Invariants -/

/-- R31: every step keeps the invariants of FRAME_INFO. MODEL'S CHOICE of what a step serves (entry 1). -/
def Obligations.StepKeepsFrameInfoLegal : Prop :=
  ∀ s t : State, FrameInfoLegal s → step s = .next t → FrameInfoLegal t

/-- R25, R31 to R34, R191, R223, R224, R236: every step keeps a legal state legal. MODEL'S CHOICE of what a step serves
(entry 1). -/
def Obligations.StepKeepsLegal : Prop := ∀ s t : State, Legal s → step s = .next t → Legal t

/-- R40: the state after reset is legal. -/
def Obligations.ResetIsLegal : Prop := Legal State.reset
end

