-- ==== Sys2Proof/Laws/State.lean ====
section
/-! SUPPORT. One lemma per field per update of the state, so that no proof unfolds a record update. -/

namespace Sys2Proof.Machine

/-! ### setStatus -/

@[simp] theorem State.setStatus_status (st : StatusReg) (s : State) : (s.setStatus st).status = st := rfl
@[simp] theorem State.setStatus_truncEn (st : StatusReg) (s : State) : (s.setStatus st).truncEn = s.truncEn := rfl
@[simp] theorem State.setStatus_argN (st : StatusReg) (s : State) : (s.setStatus st).argN = s.argN := rfl
@[simp] theorem State.setStatus_argW (st : StatusReg) (s : State) : (s.setStatus st).argW = s.argW := rfl
@[simp] theorem State.setStatus_result (st : StatusReg) (s : State) : (s.setStatus st).result = s.result := rfl
@[simp] theorem State.setStatus_tsDate (st : StatusReg) (s : State) : (s.setStatus st).tsDate = s.tsDate := rfl
@[simp] theorem State.setStatus_tsTime (st : StatusReg) (s : State) : (s.setStatus st).tsTime = s.tsTime := rfl
@[simp] theorem State.setStatus_tsYday (st : StatusReg) (s : State) : (s.setStatus st).tsYday = s.tsYday := rfl
@[simp] theorem State.setStatus_frameInfo (st : StatusReg) (s : State) :
    (s.setStatus st).frameInfo = s.frameInfo := rfl
@[simp] theorem State.setStatus_symOut (st : StatusReg) (s : State) : (s.setStatus st).symOut = s.symOut := rfl
@[simp] theorem State.setStatus_pulse (st : StatusReg) (s : State) : (s.setStatus st).pulse = s.pulse := rfl
@[simp] theorem State.setStatus_frame (st : StatusReg) (s : State) : (s.setStatus st).frame = s.frame := rfl
@[simp] theorem State.setStatus_pending (st : StatusReg) (s : State) : (s.setStatus st).pending = s.pending := rfl
@[simp] theorem State.setStatus_response (st : StatusReg) (s : State) : (s.setStatus st).response = s.response := rfl

/-! ### setResult -/

@[simp] theorem State.setResult_status (v : BitVec 16) (s : State) : (s.setResult v).status = s.status := rfl
@[simp] theorem State.setResult_truncEn (v : BitVec 16) (s : State) : (s.setResult v).truncEn = s.truncEn := rfl
@[simp] theorem State.setResult_argN (v : BitVec 16) (s : State) : (s.setResult v).argN = s.argN := rfl
@[simp] theorem State.setResult_argW (v : BitVec 16) (s : State) : (s.setResult v).argW = s.argW := rfl
@[simp] theorem State.setResult_result (v : BitVec 16) (s : State) : (s.setResult v).result = v := rfl
@[simp] theorem State.setResult_tsDate (v : BitVec 16) (s : State) : (s.setResult v).tsDate = s.tsDate := rfl
@[simp] theorem State.setResult_tsTime (v : BitVec 16) (s : State) : (s.setResult v).tsTime = s.tsTime := rfl
@[simp] theorem State.setResult_tsYday (v : BitVec 16) (s : State) : (s.setResult v).tsYday = s.tsYday := rfl
@[simp] theorem State.setResult_frameInfo (v : BitVec 16) (s : State) : (s.setResult v).frameInfo = s.frameInfo := rfl
@[simp] theorem State.setResult_symOut (v : BitVec 16) (s : State) : (s.setResult v).symOut = s.symOut := rfl
@[simp] theorem State.setResult_pulse (v : BitVec 16) (s : State) : (s.setResult v).pulse = s.pulse := rfl
@[simp] theorem State.setResult_frame (v : BitVec 16) (s : State) : (s.setResult v).frame = s.frame := rfl
@[simp] theorem State.setResult_pending (v : BitVec 16) (s : State) : (s.setResult v).pending = s.pending := rfl
@[simp] theorem State.setResult_response (v : BitVec 16) (s : State) : (s.setResult v).response = s.response := rfl

/-! ### setPulse -/

@[simp] theorem State.setPulse_status (p : PulseReg) (s : State) : (s.setPulse p).status = s.status := rfl
@[simp] theorem State.setPulse_truncEn (p : PulseReg) (s : State) : (s.setPulse p).truncEn = s.truncEn := rfl
@[simp] theorem State.setPulse_argN (p : PulseReg) (s : State) : (s.setPulse p).argN = s.argN := rfl
@[simp] theorem State.setPulse_argW (p : PulseReg) (s : State) : (s.setPulse p).argW = s.argW := rfl
@[simp] theorem State.setPulse_result (p : PulseReg) (s : State) : (s.setPulse p).result = s.result := rfl
@[simp] theorem State.setPulse_tsDate (p : PulseReg) (s : State) : (s.setPulse p).tsDate = s.tsDate := rfl
@[simp] theorem State.setPulse_tsTime (p : PulseReg) (s : State) : (s.setPulse p).tsTime = s.tsTime := rfl
@[simp] theorem State.setPulse_tsYday (p : PulseReg) (s : State) : (s.setPulse p).tsYday = s.tsYday := rfl
@[simp] theorem State.setPulse_frameInfo (p : PulseReg) (s : State) : (s.setPulse p).frameInfo = s.frameInfo := rfl
@[simp] theorem State.setPulse_symOut (p : PulseReg) (s : State) : (s.setPulse p).symOut = s.symOut := rfl
@[simp] theorem State.setPulse_pulse (p : PulseReg) (s : State) : (s.setPulse p).pulse = p := rfl
@[simp] theorem State.setPulse_frame (p : PulseReg) (s : State) : (s.setPulse p).frame = s.frame := rfl
@[simp] theorem State.setPulse_pending (p : PulseReg) (s : State) : (s.setPulse p).pending = s.pending := rfl
@[simp] theorem State.setPulse_response (p : PulseReg) (s : State) : (s.setPulse p).response = s.response := rfl

/-! ### setSymOut -/

@[simp] theorem State.setSymOut_status (o : SymOutReg) (s : State) : (s.setSymOut o).status = s.status := rfl
@[simp] theorem State.setSymOut_truncEn (o : SymOutReg) (s : State) : (s.setSymOut o).truncEn = s.truncEn := rfl
@[simp] theorem State.setSymOut_argN (o : SymOutReg) (s : State) : (s.setSymOut o).argN = s.argN := rfl
@[simp] theorem State.setSymOut_argW (o : SymOutReg) (s : State) : (s.setSymOut o).argW = s.argW := rfl
@[simp] theorem State.setSymOut_result (o : SymOutReg) (s : State) : (s.setSymOut o).result = s.result := rfl
@[simp] theorem State.setSymOut_tsDate (o : SymOutReg) (s : State) : (s.setSymOut o).tsDate = s.tsDate := rfl
@[simp] theorem State.setSymOut_tsTime (o : SymOutReg) (s : State) : (s.setSymOut o).tsTime = s.tsTime := rfl
@[simp] theorem State.setSymOut_tsYday (o : SymOutReg) (s : State) : (s.setSymOut o).tsYday = s.tsYday := rfl
@[simp] theorem State.setSymOut_frameInfo (o : SymOutReg) (s : State) : (s.setSymOut o).frameInfo = s.frameInfo := rfl
@[simp] theorem State.setSymOut_symOut (o : SymOutReg) (s : State) : (s.setSymOut o).symOut = o := rfl
@[simp] theorem State.setSymOut_pulse (o : SymOutReg) (s : State) : (s.setSymOut o).pulse = s.pulse := rfl
@[simp] theorem State.setSymOut_frame (o : SymOutReg) (s : State) : (s.setSymOut o).frame = s.frame := rfl
@[simp] theorem State.setSymOut_pending (o : SymOutReg) (s : State) : (s.setSymOut o).pending = s.pending := rfl
@[simp] theorem State.setSymOut_response (o : SymOutReg) (s : State) : (s.setSymOut o).response = s.response := rfl

/-! ### setRdPtr -/

@[simp] theorem State.setRdPtr_status (p : BitVec 8) (s : State) : (s.setRdPtr p).status = s.status := rfl
@[simp] theorem State.setRdPtr_truncEn (p : BitVec 8) (s : State) : (s.setRdPtr p).truncEn = s.truncEn := rfl
@[simp] theorem State.setRdPtr_argN (p : BitVec 8) (s : State) : (s.setRdPtr p).argN = s.argN := rfl
@[simp] theorem State.setRdPtr_argW (p : BitVec 8) (s : State) : (s.setRdPtr p).argW = s.argW := rfl
@[simp] theorem State.setRdPtr_result (p : BitVec 8) (s : State) : (s.setRdPtr p).result = s.result := rfl
@[simp] theorem State.setRdPtr_tsDate (p : BitVec 8) (s : State) : (s.setRdPtr p).tsDate = s.tsDate := rfl
@[simp] theorem State.setRdPtr_tsTime (p : BitVec 8) (s : State) : (s.setRdPtr p).tsTime = s.tsTime := rfl
@[simp] theorem State.setRdPtr_tsYday (p : BitVec 8) (s : State) : (s.setRdPtr p).tsYday = s.tsYday := rfl
@[simp] theorem State.setRdPtr_frameInfo (p : BitVec 8) (s : State) :
    (s.setRdPtr p).frameInfo = { s.frameInfo with rdPtr := p } := rfl
@[simp] theorem State.setRdPtr_symOut (p : BitVec 8) (s : State) : (s.setRdPtr p).symOut = s.symOut := rfl
@[simp] theorem State.setRdPtr_pulse (p : BitVec 8) (s : State) : (s.setRdPtr p).pulse = s.pulse := rfl
@[simp] theorem State.setRdPtr_frame (p : BitVec 8) (s : State) : (s.setRdPtr p).frame = s.frame := rfl
@[simp] theorem State.setRdPtr_pending (p : BitVec 8) (s : State) : (s.setRdPtr p).pending = s.pending := rfl
@[simp] theorem State.setRdPtr_response (p : BitVec 8) (s : State) : (s.setRdPtr p).response = s.response := rfl

/-! ### resetRegs -/

@[simp] theorem State.resetRegs_status (s : State) : (s.resetRegs).status = Regs.reset.status := rfl
@[simp] theorem State.resetRegs_truncEn (s : State) : (s.resetRegs).truncEn = Regs.reset.truncEn := rfl
@[simp] theorem State.resetRegs_argN (s : State) : (s.resetRegs).argN = Regs.reset.argN := rfl
@[simp] theorem State.resetRegs_argW (s : State) : (s.resetRegs).argW = Regs.reset.argW := rfl
@[simp] theorem State.resetRegs_result (s : State) : (s.resetRegs).result = Regs.reset.result := rfl
@[simp] theorem State.resetRegs_tsDate (s : State) : (s.resetRegs).tsDate = Regs.reset.tsDate := rfl
@[simp] theorem State.resetRegs_tsTime (s : State) : (s.resetRegs).tsTime = Regs.reset.tsTime := rfl
@[simp] theorem State.resetRegs_tsYday (s : State) : (s.resetRegs).tsYday = Regs.reset.tsYday := rfl
@[simp] theorem State.resetRegs_frameInfo (s : State) : (s.resetRegs).frameInfo = Regs.reset.frameInfo := rfl
@[simp] theorem State.resetRegs_symOut (s : State) : (s.resetRegs).symOut = Regs.reset.symOut := rfl
@[simp] theorem State.resetRegs_pulse (s : State) : (s.resetRegs).pulse = Regs.reset.pulse := rfl
@[simp] theorem State.resetRegs_frame (s : State) : (s.resetRegs).frame = Regs.reset.frame := rfl
@[simp] theorem State.resetRegs_pending (s : State) : (s.resetRegs).pending = s.pending := rfl
@[simp] theorem State.resetRegs_response (s : State) : (s.resetRegs).response = s.response := rfl

/-! ### clearFrame -/

@[simp] theorem State.clearFrame_status (s : State) : (s.clearFrame).status = s.status := rfl
@[simp] theorem State.clearFrame_truncEn (s : State) : (s.clearFrame).truncEn = s.truncEn := rfl
@[simp] theorem State.clearFrame_argN (s : State) : (s.clearFrame).argN = s.argN := rfl
@[simp] theorem State.clearFrame_argW (s : State) : (s.clearFrame).argW = s.argW := rfl
@[simp] theorem State.clearFrame_result (s : State) : (s.clearFrame).result = s.result := rfl
@[simp] theorem State.clearFrame_tsDate (s : State) : (s.clearFrame).tsDate = s.tsDate := rfl
@[simp] theorem State.clearFrame_tsTime (s : State) : (s.clearFrame).tsTime = s.tsTime := rfl
@[simp] theorem State.clearFrame_tsYday (s : State) : (s.clearFrame).tsYday = s.tsYday := rfl
@[simp] theorem State.clearFrame_frameInfo (s : State) : (s.clearFrame).frameInfo = Regs.reset.frameInfo := rfl
@[simp] theorem State.clearFrame_symOut (s : State) : (s.clearFrame).symOut = Regs.reset.symOut := rfl
@[simp] theorem State.clearFrame_pulse (s : State) : (s.clearFrame).pulse = Regs.reset.pulse := rfl
@[simp] theorem State.clearFrame_frame (s : State) : (s.clearFrame).frame = Regs.reset.frame := rfl
@[simp] theorem State.clearFrame_pending (s : State) : (s.clearFrame).pending = s.pending := rfl
@[simp] theorem State.clearFrame_response (s : State) : (s.clearFrame).response = s.response := rfl

/-! ### commitFrame -/

@[simp] theorem State.commitFrame_status (f : List SymCode) (std : Standard) (s : State) :
    (s.commitFrame f std).status = s.status := rfl
@[simp] theorem State.commitFrame_truncEn (f : List SymCode) (std : Standard) (s : State) :
    (s.commitFrame f std).truncEn = s.truncEn := rfl
@[simp] theorem State.commitFrame_argN (f : List SymCode) (std : Standard) (s : State) :
    (s.commitFrame f std).argN = s.argN := rfl
@[simp] theorem State.commitFrame_argW (f : List SymCode) (std : Standard) (s : State) :
    (s.commitFrame f std).argW = s.argW := rfl
@[simp] theorem State.commitFrame_result (f : List SymCode) (std : Standard) (s : State) :
    (s.commitFrame f std).result = s.result := rfl
@[simp] theorem State.commitFrame_tsDate (f : List SymCode) (std : Standard) (s : State) :
    (s.commitFrame f std).tsDate = s.tsDate := rfl
@[simp] theorem State.commitFrame_tsTime (f : List SymCode) (std : Standard) (s : State) :
    (s.commitFrame f std).tsTime = s.tsTime := rfl
@[simp] theorem State.commitFrame_tsYday (f : List SymCode) (std : Standard) (s : State) :
    (s.commitFrame f std).tsYday = s.tsYday := rfl
@[simp] theorem State.commitFrame_frameInfo (f : List SymCode) (std : Standard) (s : State) :
    (s.commitFrame f std).frameInfo = { len := BitVec.ofNat 8 f.length, fstd := std.code, valid := true, rdPtr := 0 } := rfl
@[simp] theorem State.commitFrame_symOut (f : List SymCode) (std : Standard) (s : State) :
    (s.commitFrame f std).symOut = Regs.reset.symOut := rfl
@[simp] theorem State.commitFrame_pulse (f : List SymCode) (std : Standard) (s : State) :
    (s.commitFrame f std).pulse = Regs.reset.pulse := rfl
@[simp] theorem State.commitFrame_frame (f : List SymCode) (std : Standard) (s : State) :
    (s.commitFrame f std).frame = Vector.ofFn fun i : Fin 60 => f.getD i 0 := rfl
@[simp] theorem State.commitFrame_pending (f : List SymCode) (std : Standard) (s : State) :
    (s.commitFrame f std).pending = s.pending := rfl
@[simp] theorem State.commitFrame_response (f : List SymCode) (std : Standard) (s : State) :
    (s.commitFrame f std).response = s.response := rfl

/-! ### respond -/

@[simp] theorem State.respond_status (r : BusResponse) (s : State) : (s.respond r).status = s.status := rfl
@[simp] theorem State.respond_truncEn (r : BusResponse) (s : State) : (s.respond r).truncEn = s.truncEn := rfl
@[simp] theorem State.respond_argN (r : BusResponse) (s : State) : (s.respond r).argN = s.argN := rfl
@[simp] theorem State.respond_argW (r : BusResponse) (s : State) : (s.respond r).argW = s.argW := rfl
@[simp] theorem State.respond_result (r : BusResponse) (s : State) : (s.respond r).result = s.result := rfl
@[simp] theorem State.respond_tsDate (r : BusResponse) (s : State) : (s.respond r).tsDate = s.tsDate := rfl
@[simp] theorem State.respond_tsTime (r : BusResponse) (s : State) : (s.respond r).tsTime = s.tsTime := rfl
@[simp] theorem State.respond_tsYday (r : BusResponse) (s : State) : (s.respond r).tsYday = s.tsYday := rfl
@[simp] theorem State.respond_frameInfo (r : BusResponse) (s : State) : (s.respond r).frameInfo = s.frameInfo := rfl
@[simp] theorem State.respond_symOut (r : BusResponse) (s : State) : (s.respond r).symOut = s.symOut := rfl
@[simp] theorem State.respond_pulse (r : BusResponse) (s : State) : (s.respond r).pulse = s.pulse := rfl
@[simp] theorem State.respond_frame (r : BusResponse) (s : State) : (s.respond r).frame = s.frame := rfl
@[simp] theorem State.respond_pending (r : BusResponse) (s : State) : (s.respond r).pending = s.pending := rfl
@[simp] theorem State.respond_response (r : BusResponse) (s : State) : (s.respond r).response = r := rfl

end Sys2Proof.Machine
end

