-- ==== Sys2Proof/Laws/Ops.lean ====
section
/-! SUPPORT. What each shared operation does, said once. -/

namespace Sys2Proof.Machine

/-! ### Digit sequences -/

@[simp] theorem binW_length (w v : Nat) : (binW w v).length = w := by simp [binW]

@[simp] theorem quatW_length (w v : Nat) : (quatW w v).length = w := by simp [quatW]

@[simp] theorem binW_zero (v : Nat) : binW 0 v = [] := rfl

@[simp] theorem quatW_zero (v : Nat) : quatW 0 v = [] := rfl

/-- The first bit is the most significant; the rest are the bits of one width less. -/
theorem binW_succ (w v : Nat) : binW (w + 1) v = (v / 2 ^ w % 2 == 1) :: binW w v := by
  simp only [binW, List.range_succ_eq_map, List.map_cons, List.map_map]
  congr 1
  refine List.map_congr_left fun i _ => ?_
  simp only [Function.comp, Nat.succ_eq_add_one]
  rw [show w + 1 - 1 - (i + 1) = w - 1 - i by omega]

/-- The first digit is the most significant; the rest are the digits of one width less. -/
theorem quatW_succ (w v : Nat) : quatW (w + 1) v = BitVec.ofNat 2 (v / 4 ^ w % 4) :: quatW w v := by
  simp only [quatW, List.range_succ_eq_map, List.map_cons, List.map_map]
  congr 1
  refine List.map_congr_left fun i _ => ?_
  simp only [Function.comp, Nat.succ_eq_add_one]
  rw [show w + 1 - 1 - (i + 1) = w - 1 - i by omega]

/-- Only the low bits reach a digit sequence, so truncation shows in the flag alone. -/
theorem div_pow_mod_of_lt {b i w : Nat} (v : Nat) (h : i < w) : v % b ^ w / b ^ i % b = v / b ^ i % b := by
  obtain ⟨k, rfl⟩ := Nat.exists_eq_add_of_lt h
  rw [show i + k + 1 = i + (k + 1) by omega, Nat.pow_add, Nat.mod_mul_right_div_self, Nat.pow_succ,
    Nat.mod_mul_left_mod]

theorem binW_mod (w v : Nat) : binW w (v % 2 ^ w) = binW w v := by
  refine List.map_congr_left fun i hi => ?_
  have hi : i < w := List.mem_range.1 hi
  rw [div_pow_mod_of_lt v (by omega : w - 1 - i < w)]

theorem quatW_mod (w v : Nat) : quatW w (v % 4 ^ w) = quatW w v := by
  refine List.map_congr_left fun i hi => ?_
  have hi : i < w := List.mem_range.1 hi
  rw [div_pow_mod_of_lt v (by omega : w - 1 - i < w)]

/-- All that `fitb` can do: an overflow under Fail, or the low w bits with the truncation flag (R131). -/
theorem fitb_eq (truncEn : Bool) (n w idx : Nat) :
    fitb truncEn n w idx =
      if truncEn = false ∧ 2 ^ w ≤ n then .error (overflowAt idx)
      else .ok { digits := binW w n, truncated := decide (2 ^ w ≤ n) } := by
  unfold fitb
  by_cases h : n < 2 ^ w
  · simp [h, Nat.not_le.2 h]
  · cases truncEn <;> simp [h, Nat.le_of_not_lt h, binW_mod]

/-- All that `fitq` can do: an overflow under Fail, or the low w digits with the truncation flag (R136). -/
theorem fitq_eq (truncEn : Bool) (n w idx : Nat) :
    fitq truncEn n w idx =
      if truncEn = false ∧ 4 ^ w ≤ n then .error (overflowAt idx)
      else .ok { digits := quatW w n, truncated := decide (4 ^ w ≤ n) } := by
  unfold fitq
  by_cases h : n < 4 ^ w
  · simp [h, Nat.not_le.2 h]
  · cases truncEn <;> simp [h, Nat.le_of_not_lt h, quatW_mod]

/-- A value that fits never overflows, under either policy. -/
theorem fitb_of_lt {n w : Nat} (truncEn : Bool) (idx : Nat) (h : n < 2 ^ w) :
    fitb truncEn n w idx = .ok { digits := binW w n, truncated := false } := by
  simp [fitb, h]

/-! ### Operand ranges -/

theorem bitWidthLegal_iff (w : Nat) : bitWidthLegal w = true ↔ 1 ≤ w ∧ w ≤ 16 := by
  simp only [bitWidthLegal, Bool.and_eq_true, decide_eq_true_eq]

theorem quatWidthLegal_iff (w : Nat) : quatWidthLegal w = true ↔ 1 ≤ w ∧ w ≤ 8 := by
  simp only [quatWidthLegal, Bool.and_eq_true, decide_eq_true_eq]

/-! ### Completion -/

/-- All that an error completion can do (R331). -/
theorem raiseError_eq (isBuild : Bool) (e : CmdError) (s : State) :
    raiseError isBuild e s =
      if isBuild = true ∧ e.code.discardsFrame = true then (s.setStatus (errorStatus e)).clearFrame
      else s.setStatus (errorStatus e) := by
  simp [raiseError]

/-- An error of a command other than BUILD writes STATUS and nothing else (R331). -/
@[simp] theorem raiseError_false (e : CmdError) (s : State) :
    raiseError false e s = s.setStatus (errorStatus e) := rfl

/-- A phase error of a BUILD discards the frame (R321, R331). -/
@[simp] theorem raiseError_clock (s : State) :
    raiseError true clockViolation s = (s.setStatus (errorStatus clockViolation)).clearFrame := rfl

/-- An overflow of a BUILD discards the frame (R322, R331). -/
@[simp] theorem raiseError_overflow (idx : Nat) (s : State) :
    raiseError true (overflowAt idx) s = (s.setStatus (errorStatus (overflowAt idx))).clearFrame := rfl

@[simp] theorem completeBuild_ok (std : Standard) (f : Fitted SymCode) (s : State) :
    completeBuild std (.ok f) s = completeOk f.truncated (s.commitFrame f.digits std) := rfl

@[simp] theorem completeBuild_error (std : Standard) (e : CmdError) (s : State) :
    completeBuild std (.error e) s = raiseError true e s := rfl

/-! ### Frames and pulses -/

/-- The frame slot at an index, as a plain list lookup. -/
theorem commitFrame_getElem (f : List SymCode) (std : Standard) (s : State) (i : Nat) (h : i < 60) :
    (s.commitFrame f std).frame[i] = f.getD i 0 := by
  simp [State.commitFrame]

/-- Every symbol code below a standard's count has a profile (R260). -/
theorem pulse_of_lt (std : Standard) (c : SymCode) (h : c.toNat < std.symbolCount) :
    ∃ p, pulse std c = some p := by
  refine Option.isSome_iff_exists.1 ?_
  revert h
  revert c
  cases std <;> decide

/-- POP's test, in numbers (R270). -/
theorem frameSpent_iff (s : State) :
    frameSpent s = true ↔ s.frameInfo.valid = false ∨ s.frameInfo.len.toNat ≤ s.frameInfo.rdPtr.toNat := by
  simp [frameSpent, BitVec.le_def]

theorem nextSymbol_of_lt (s : State) (h : s.frameInfo.rdPtr.toNat < 60) :
    nextSymbol s = s.frame[s.frameInfo.rdPtr.toNat] := by
  simp [nextSymbol, h]

/-- A symbol of a standard is delivered with that standard's profile (R270). -/
theorem framePulse_of_pulse {s : State} {c : SymCode} {std : Standard} {p : PulseReg}
    (hstd : Standard.ofCode s.frameInfo.fstd = some std) (hp : pulse std c = some p) : framePulse s c = p := by
  simp [framePulse, hstd, hp]

/-- All that a delivery can do (R270). -/
theorem deliverSymbol_eq (s : State) :
    deliverSymbol s =
      { s with
        symOut := { sym := nextSymbol s, index := s.frameInfo.rdPtr, std := s.frameInfo.fstd }
        pulse := framePulse s (nextSymbol s)
        frameInfo := { s.frameInfo with rdPtr := s.frameInfo.rdPtr + 1 }
        status := { err := 0, trunc := false, errIndex := 0 } } := rfl

/-- All that a MAP can do: refuse a code that is no symbol, or set PULSE (R265 to R267). -/
theorem mapSymbol_cases (std : Standard) (s : State) :
    (std.symbolCount ≤ s.argN.toNat ∧ mapSymbol std s = s.setStatus (errorStatus illegalCommand))
    ∨ ∃ p, s.argN.toNat < std.symbolCount ∧ pulse std (BitVec.ofNat 2 s.argN.toNat) = some p
        ∧ mapSymbol std s = (s.setPulse p).setStatus (successStatus false) := by
  by_cases h : s.argN.toNat < std.symbolCount
  · have hlt : (BitVec.ofNat 2 s.argN.toNat).toNat < std.symbolCount := by
      have : std.symbolCount ≤ 4 := by cases std <;> decide
      rw [BitVec.toNat_ofNat, Nat.mod_eq_of_lt (by omega)]
      exact h
    obtain ⟨p, hp⟩ := pulse_of_lt std _ hlt
    refine .inr ⟨p, h, hp, ?_⟩
    unfold mapSymbol operandN
    rw [if_pos h, hp]
    rfl
  · exact .inl ⟨by omega, by simp [mapSymbol, operandN, h]⟩

end Sys2Proof.Machine
end

