-- ==== Sys2Proof/Laws/Bus.lean ====
section
/-! SUPPORT. What the bus operations do, said once: which accesses reach a register, and the three cases of a served
event. -/

namespace Sys2Proof.Machine

/-- Every command answers a next state (R300). -/
theorem exec_next (i : Instr) (s : State) : ∃ t, exec i s = .next t := by
  cases i <;> exact ⟨_, rfl⟩

/-- An offset names no register exactly in the two unmapped ranges, for an aligned offset (R64). -/
theorem mappedReg_eq_none_iff (off : Offset) (h : off.toNat % 4 = 0) :
    mappedReg off = none ↔ (0x30 ≤ off.toNat ∧ off.toNat < 0x100) ∨ 0x1F0 ≤ off.toNat := by
  revert h
  revert off
  decide

/-- An access draws a bus error exactly for another width, a misaligned offset or an unmapped one (R62, R63, R64). -/
theorem accessReg_eq_none_iff (off : Offset) (size : Nat) :
    accessReg off size = none ↔
      size ≠ 4 ∨ off.toNat % 4 ≠ 0 ∨ (0x30 ≤ off.toNat ∧ off.toNat < 0x100) ∨ 0x1F0 ≤ off.toNat := by
  by_cases h4 : size = 4
  · by_cases ha : off.toNat % 4 = 0
    · simp [accessReg, h4, ha, mappedReg_eq_none_iff off ha]
    · simp [accessReg, ha]
  · simp [accessReg, h4]

@[simp] theorem accessReg_cmd : accessReg 0x000 4 = some .cmd := rfl

/-- All that running a command word can do: the decoded command, or ILLEGAL_COMMAND in STATUS (R96). -/
theorem runCommand_cases (v : Word) (s : State) :
    (∃ i, decode v = .ok i ∧ runCommand v s = exec i s)
    ∨ ∃ e, decode v = .error e ∧ runCommand v s = .next (s.setStatus (errorStatus illegalCommand)) := by
  cases h : decode v with
  | ok i => exact .inl ⟨i, rfl, by simp [runCommand, h]⟩
  | error e => exact .inr ⟨e, rfl, by simp [runCommand, h, execIllegal]⟩

/-- All that serving an event can do: an answer with no register changed, a stored register, a completed command, or
a reset. -/
theorem serve_cases {e : HostEvent} {s t : State} (h : serve e s = .next t) :
    (∃ a, t = s.respond a)
    ∨ (∃ r v, t = (storeReg r v s).respond .ok)
    ∨ (∃ i u, exec i s = .next u ∧ t = u.respond .ok)
    ∨ t = (s.setStatus (errorStatus illegalCommand)).respond .ok
    ∨ t = s.resetRegs.respond .none := by
  cases e with
  | read off size => exact .inl ⟨_, (by simpa [serve] using h.symm)⟩
  | reset => exact .inr (.inr (.inr (.inr (by simpa [serve] using h.symm))))
  | write off size v =>
    simp only [serve, memWrite] at h
    split at h
    · exact .inl ⟨_, (by simpa using h.symm)⟩
    · obtain ⟨i, -, hr⟩ | ⟨_, -, hr⟩ := runCommand_cases v s
      · obtain ⟨u, hu⟩ := exec_next i s
        rw [hr, hu] at h
        exact .inr (.inr (.inl ⟨i, u, hu, by simpa [acceptCommand] using h.symm⟩))
      · rw [hr] at h
        exact .inr (.inr (.inr (.inl (by simpa [acceptCommand] using h.symm))))
    · exact .inr (.inl ⟨_, v, by simpa using h.symm⟩)

/-- All that a step can do: nothing with no event pending, else it serves the oldest one. -/
theorem step_cases {s t : State} (h : step s = .next t) :
    (s.pending = [] ∧ t = s) ∨ ∃ e rest, s.pending = e :: rest ∧ serve e { s with pending := rest } = .next t := by
  unfold step at h
  split at h
  · exact .inl ⟨‹_›, by simpa using h.symm⟩
  · exact .inr ⟨_, _, ‹_›, h⟩

end Sys2Proof.Machine
end

