-- ==== Sys2Proof/Laws/Frames.lean ====
section
/-! SUPPORT. The frame builders in closed form: which overflow is reported, and the frame otherwise. -/

namespace Sys2Proof.Machine

/-- A two-digit field: only its tens digit can overflow (R173). -/
theorem bcdField_eq (truncEn : Bool) (v wt it iu : Nat) :
    bcdField truncEn v wt 4 it iu =
      if truncEn = false ∧ 2 ^ wt ≤ v / 10 then .error (overflowAt it)
      else .ok { digits := binW wt (v / 10) ++ binW 4 (v % 10), truncated := decide (2 ^ wt ≤ v / 10) } := by
  unfold bcdField
  rw [fitb_eq, fitb_of_lt truncEn iu (show v % 10 < 2 ^ 4 by omega)]
  by_cases h : truncEn = false ∧ 2 ^ wt ≤ v / 10
  · simp only [if_pos h]
  · simp only [if_neg h, Bool.or_false]

/-- The layout has 60 slots when every field has its width (R172). -/
theorem frameLayout_length {mc hc dh dt du yt yu wd : List Bool} (hmc : mc.length = 7) (hhc : hc.length = 6)
    (hdh : dh.length = 2) (hdt : dt.length = 4) (hdu : du.length = 4) (hyt : yt.length = 4) (hyu : yu.length = 4)
    (hwd : wd.length = 3) : (frameLayout mc hc dh dt du yt yu wd).length = 60 := by
  unfold frameLayout
  simp only [List.length_append, List.length_map, List.length_take, List.length_drop, List.length_cons,
    List.length_nil, List.length_replicate]
  omega

/-- The slots of a TimeSample's JJY frame (R172), whatever the policy. -/
def skeletonSlots (ts : TimeSample) : List SymCode :=
  frameLayout (binW 3 (ts.minute / 10) ++ binW 4 (ts.minute % 10)) (binW 2 (ts.hour / 10) ++ binW 4 (ts.hour % 10))
    (binW 2 (ts.yday / 100)) (binW 4 (ts.yday / 10 % 10)) (binW 4 (ts.yday % 10))
    (binW 4 (ts.year % 100 / 10)) (binW 4 (ts.year % 100 % 10)) (binW 3 (ts.weekday % 7))

@[simp] theorem skeletonSlots_length (ts : TimeSample) : (skeletonSlots ts).length = 60 := by
  simp [skeletonSlots, frameLayout_length]

/-- All that the skeleton can do: the first overflow in frame order, or the slots (R172, R192). -/
theorem skeleton_eq (truncEn : Bool) (ts : TimeSample) :
    skeleton truncEn ts =
      if truncEn = false ∧ 8 ≤ ts.minute / 10 then .error (overflowAt 1)
      else if truncEn = false ∧ 4 ≤ ts.hour / 10 then .error (overflowAt 12)
      else if truncEn = false ∧ 4 ≤ ts.yday / 100 then .error (overflowAt 22)
      else .ok
        { digits := skeletonSlots ts
          truncated := decide (8 ≤ ts.minute / 10) || decide (4 ≤ ts.hour / 10) || decide (4 ≤ ts.yday / 100) } := by
  unfold skeleton
  rw [bcdField_eq, bcdField_eq, fitb_eq]
  simp only [Nat.reducePow]
  by_cases hm : truncEn = false ∧ 8 ≤ ts.minute / 10
  · simp only [if_pos hm]
  by_cases hh : truncEn = false ∧ 4 ≤ ts.hour / 10
  · simp only [if_neg hm, if_pos hh]
  by_cases hd : truncEn = false ∧ 4 ≤ ts.yday / 100
  · simp only [if_neg hm, if_neg hh, if_pos hd]
  simp only [if_neg hm, if_neg hh, if_neg hd]
  rfl

@[simp] theorem wwvbSubst_length (f : List SymCode) (ts : TimeSample) : (wwvbSubst f ts).length = f.length := by
  simp [wwvbSubst]

/-- A BPC field appended: its overflow, or its digits after those built so far (R222). -/
theorem appendField_eq (truncEn : Bool) (n w idx : Nat) (built : Fitted SymCode) :
    appendField truncEn n w idx built =
      if truncEn = false ∧ 4 ^ w ≤ n then .error (overflowAt idx)
      else .ok { digits := built.digits ++ quatW w n, truncated := built.truncated || decide (4 ^ w ≤ n) } := by
  unfold appendField
  rw [fitq_eq]
  by_cases h : truncEn = false ∧ 4 ^ w ≤ n
  · simp only [if_pos h]
  · simp only [if_neg h]

/-- Indices 0..8 of a TimeSample's BPC frame, whatever the policy (R222). -/
def bpcTimeSlots (ts : TimeSample) : List SymCode :=
  [BitVec.ofNat 2 (ts.second / 20), 0] ++ quatW 2 (hour12 ts.hour) ++ quatW 3 ts.minute ++ quatW 2 ts.weekday

/-- Indices 10..17 of a TimeSample's BPC frame, whatever the policy (R222). -/
def bpcDateSlots (ts : TimeSample) : List SymCode := quatW 3 ts.day ++ quatW 2 ts.month ++ quatW 3 (ts.year % 100)

/-- The slots of a TimeSample's BPC frame, whatever the policy (R222). -/
def bpcSlots (ts : TimeSample) : List SymCode :=
  bpcTimeSlots ts ++ [bpcP3 (bpcTimeSlots ts) ts.hour] ++ bpcDateSlots ts ++ [bpcP4 (bpcDateSlots ts)]

@[simp] theorem bpcSlots_length (ts : TimeSample) : (bpcSlots ts).length = 19 := by
  simp [bpcSlots, bpcTimeSlots, bpcDateSlots]

theorem bpcTimeBlock_eq (truncEn : Bool) (ts : TimeSample) :
    bpcTimeBlock truncEn ts =
      if truncEn = false ∧ 16 ≤ hour12 ts.hour then .error (overflowAt 2)
      else if truncEn = false ∧ 64 ≤ ts.minute then .error (overflowAt 4)
      else if truncEn = false ∧ 16 ≤ ts.weekday then .error (overflowAt 7)
      else .ok
        { digits := bpcTimeSlots ts
          truncated := decide (16 ≤ hour12 ts.hour) || decide (64 ≤ ts.minute) || decide (16 ≤ ts.weekday) } := by
  unfold bpcTimeBlock
  simp only [appendField_eq, Nat.reducePow]
  by_cases hh : truncEn = false ∧ 16 ≤ hour12 ts.hour
  · simp only [if_pos hh]
  by_cases hm : truncEn = false ∧ 64 ≤ ts.minute
  · simp only [if_neg hh, if_pos hm]
  by_cases hw : truncEn = false ∧ 16 ≤ ts.weekday
  · simp only [if_neg hh, if_neg hm, if_pos hw]
  simp only [if_neg hh, if_neg hm, if_neg hw]
  simp only [bpcTimeSlots, Bool.false_or]

theorem bpcDateBlock_eq (truncEn : Bool) (ts : TimeSample) :
    bpcDateBlock truncEn ts =
      if truncEn = false ∧ 64 ≤ ts.day then .error (overflowAt 10)
      else if truncEn = false ∧ 16 ≤ ts.month then .error (overflowAt 13)
      else if truncEn = false ∧ 64 ≤ ts.year % 100 then .error (overflowAt 15)
      else .ok
        { digits := bpcDateSlots ts
          truncated := decide (64 ≤ ts.day) || decide (16 ≤ ts.month) || decide (64 ≤ ts.year % 100) } := by
  unfold bpcDateBlock
  simp only [appendField_eq, Nat.reducePow]
  by_cases hd : truncEn = false ∧ 64 ≤ ts.day
  · simp only [if_pos hd]
  by_cases hm : truncEn = false ∧ 16 ≤ ts.month
  · simp only [if_neg hd, if_pos hm]
  by_cases hy : truncEn = false ∧ 64 ≤ ts.year % 100
  · simp only [if_neg hd, if_neg hm, if_pos hy]
  simp only [if_neg hd, if_neg hm, if_neg hy]
  simp only [bpcDateSlots, Bool.false_or, List.nil_append]

/-- All that the BPC frame can do: the first overflow in frame order, or the slots (R222, R234). -/
theorem bpcFrame_eq (truncEn : Bool) (ts : TimeSample) :
    bpcFrame truncEn ts =
      if truncEn = false ∧ 16 ≤ hour12 ts.hour then .error (overflowAt 2)
      else if truncEn = false ∧ 64 ≤ ts.minute then .error (overflowAt 4)
      else if truncEn = false ∧ 16 ≤ ts.weekday then .error (overflowAt 7)
      else if truncEn = false ∧ 64 ≤ ts.day then .error (overflowAt 10)
      else if truncEn = false ∧ 16 ≤ ts.month then .error (overflowAt 13)
      else if truncEn = false ∧ 64 ≤ ts.year % 100 then .error (overflowAt 15)
      else .ok
        { digits := bpcSlots ts
          truncated := (decide (16 ≤ hour12 ts.hour) || decide (64 ≤ ts.minute) || decide (16 ≤ ts.weekday))
            || (decide (64 ≤ ts.day) || decide (16 ≤ ts.month) || decide (64 ≤ ts.year % 100)) } := by
  unfold bpcFrame
  rw [bpcTimeBlock_eq, bpcDateBlock_eq]
  by_cases hh : truncEn = false ∧ 16 ≤ hour12 ts.hour
  · simp only [if_pos hh]
  by_cases hm : truncEn = false ∧ 64 ≤ ts.minute
  · simp only [if_neg hh, if_pos hm]
  by_cases hw : truncEn = false ∧ 16 ≤ ts.weekday
  · simp only [if_neg hh, if_neg hm, if_pos hw]
  by_cases hd : truncEn = false ∧ 64 ≤ ts.day
  · simp only [if_neg hh, if_neg hm, if_neg hw, if_pos hd]
  by_cases hn : truncEn = false ∧ 16 ≤ ts.month
  · simp only [if_neg hh, if_neg hm, if_neg hw, if_neg hd, if_pos hn]
  by_cases hy : truncEn = false ∧ 64 ≤ ts.year % 100
  · simp only [if_neg hh, if_neg hm, if_neg hw, if_neg hd, if_neg hn, if_pos hy]
  simp only [if_neg hh, if_neg hm, if_neg hw, if_neg hd, if_neg hn, if_neg hy]
  rfl

end Sys2Proof.Machine
end

