-- ==== Sys2Proof/Laws/Commands.lean ====
section
/-! SUPPORT. All that executing a command can do, said once: the inversion lemmas of the BUILD commands and of `exec`. -/

namespace Sys2Proof.Machine

open Sys2Proof.Safety

/-- The frame indices an overflow of a BUILD can report (R192, R234). -/
def fieldIndices : List Nat := [1, 12, 22, 2, 4, 7, 10, 13, 15]

/-- The errors of a BUILD: the phase, or an overflow at the first index of a field (R321, R322). -/
def isBuildError (e : CmdError) : Prop := e = clockViolation ∨ ∃ idx ∈ fieldIndices, e = overflowAt idx

/-- The skeleton fails only at a field's index, else it has 60 slots. -/
theorem skeleton_cases (truncEn : Bool) (ts : TimeSample) :
    (∃ idx ∈ fieldIndices, skeleton truncEn ts = .error (overflowAt idx))
    ∨ ∃ f, skeleton truncEn ts = .ok f ∧ f.digits = skeletonSlots ts := by
  rw [skeleton_eq]
  by_cases hm : truncEn = false ∧ 8 ≤ ts.minute / 10
  · exact .inl ⟨1, by decide, if_pos hm⟩
  by_cases hh : truncEn = false ∧ 4 ≤ ts.hour / 10
  · exact .inl ⟨12, by decide, by rw [if_neg hm, if_pos hh]⟩
  by_cases hd : truncEn = false ∧ 4 ≤ ts.yday / 100
  · exact .inl ⟨22, by decide, by rw [if_neg hm, if_neg hh, if_pos hd]⟩
  exact .inr ⟨{ digits := skeletonSlots ts, truncated := _ }, by rw [if_neg hm, if_neg hh, if_neg hd], rfl⟩

/-- The BPC frame fails only at a field's index, else it has its 19 slots. -/
theorem bpcFrame_cases (truncEn : Bool) (ts : TimeSample) :
    (∃ idx ∈ fieldIndices, bpcFrame truncEn ts = .error (overflowAt idx))
    ∨ ∃ f, bpcFrame truncEn ts = .ok f ∧ f.digits = bpcSlots ts := by
  rw [bpcFrame_eq]
  by_cases hh : truncEn = false ∧ 16 ≤ hour12 ts.hour
  · exact .inl ⟨2, by decide, if_pos hh⟩
  by_cases hm : truncEn = false ∧ 64 ≤ ts.minute
  · exact .inl ⟨4, by decide, by rw [if_neg hh, if_pos hm]⟩
  by_cases hw : truncEn = false ∧ 16 ≤ ts.weekday
  · exact .inl ⟨7, by decide, by rw [if_neg hh, if_neg hm, if_pos hw]⟩
  by_cases hd : truncEn = false ∧ 64 ≤ ts.day
  · exact .inl ⟨10, by decide, by rw [if_neg hh, if_neg hm, if_neg hw, if_pos hd]⟩
  by_cases hn : truncEn = false ∧ 16 ≤ ts.month
  · exact .inl ⟨13, by decide, by rw [if_neg hh, if_neg hm, if_neg hw, if_neg hd, if_pos hn]⟩
  by_cases hy : truncEn = false ∧ 64 ≤ ts.year % 100
  · exact .inl ⟨15, by decide, by rw [if_neg hh, if_neg hm, if_neg hw, if_neg hd, if_neg hn, if_pos hy]⟩
  exact .inr ⟨{ digits := bpcSlots ts, truncated := _ },
    by rw [if_neg hh, if_neg hm, if_neg hw, if_neg hd, if_neg hn, if_neg hy], rfl⟩

/-- An error of a BUILD discards the frame (R331). -/
theorem raiseError_build {e : CmdError} (he : isBuildError e) (s : State) :
    raiseError true e s = (s.setStatus (errorStatus e)).clearFrame := by
  obtain rfl | ⟨idx, -, rfl⟩ := he <;> rfl

/-- All that BUILD.JJY can do. -/
theorem execBuildJjy_cases (s : State) :
    (∃ e, isBuildError e ∧ execBuildJjy s = .next (s.setStatus (errorStatus e)).clearFrame)
    ∨ ∃ tr, (timeSample s).second = 0
        ∧ execBuildJjy s = .next (completeOk tr (s.commitFrame (skeletonSlots (timeSample s)) .jjy)) := by
  unfold execBuildJjy
  by_cases hs : (timeSample s).second = 0
  · rw [if_neg (not_not.2 hs)]
    obtain ⟨idx, hi, h⟩ | ⟨f, h, hf⟩ := skeleton_cases s.truncEn (timeSample s)
    · exact .inl ⟨_, .inr ⟨idx, hi, rfl⟩, by rw [h]; rfl⟩
    · exact .inr ⟨f.truncated, hs, by rw [h, completeBuild_ok, hf]⟩
  · exact .inl ⟨_, .inl rfl, by rw [if_pos hs]; rfl⟩

/-- All that BUILD.WWVB can do. -/
theorem execBuildWwvb_cases (s : State) :
    (∃ e, isBuildError e ∧ execBuildWwvb s = .next (s.setStatus (errorStatus e)).clearFrame)
    ∨ ∃ tr, (timeSample s).second = 0
        ∧ execBuildWwvb s = .next (completeOk tr
            (s.commitFrame (wwvbSubst (skeletonSlots (timeSample s)) (timeSample s)) .wwvb)) := by
  unfold execBuildWwvb wwvbFrame
  by_cases hs : (timeSample s).second = 0
  · rw [if_neg (not_not.2 hs)]
    obtain ⟨idx, hi, h⟩ | ⟨f, h, hf⟩ := skeleton_cases s.truncEn (timeSample s)
    · exact .inl ⟨_, .inr ⟨idx, hi, rfl⟩, by rw [h]; rfl⟩
    · exact .inr ⟨f.truncated, hs, by rw [h, ← hf]; rfl⟩
  · exact .inl ⟨_, .inl rfl, by rw [if_pos hs]; rfl⟩

/-- All that BUILD.BPC can do. -/
theorem execBuildBpc_cases (s : State) :
    (∃ e, isBuildError e ∧ execBuildBpc s = .next (s.setStatus (errorStatus e)).clearFrame)
    ∨ ∃ tr, bpcPhase (timeSample s).second = true
        ∧ execBuildBpc s = .next (completeOk tr (s.commitFrame (bpcSlots (timeSample s)) .bpc)) := by
  unfold execBuildBpc
  by_cases hs : bpcPhase (timeSample s).second = true
  · rw [if_pos hs]
    obtain ⟨idx, hi, h⟩ | ⟨f, h, hf⟩ := bpcFrame_cases s.truncEn (timeSample s)
    · exact .inl ⟨_, .inr ⟨idx, hi, rfl⟩, by rw [h]; rfl⟩
    · exact .inr ⟨f.truncated, hs, by rw [h, completeBuild_ok, hf]⟩
  · exact .inl ⟨_, .inl rfl, by rw [if_neg hs]; rfl⟩

/-- The four primitive commands. -/
def isPrimitive (i : Instr) : Bool := i == .bcd || i == .quat || i == .parity || i == .checksum

/-- The MAP command of a standard. -/
def mapOf : Standard → Instr
  | .jjy => .mapJjy
  | .wwvb => .mapWwvb
  | .bpc => .mapBpc

/-- The BUILD command of a standard. -/
def buildOf : Standard → Instr
  | .jjy => .buildJjy
  | .wwvb => .buildWwvb
  | .bpc => .buildBpc

/-- The slots the BUILD of a standard commits. -/
def builtSlots : Standard → TimeSample → List SymCode
  | .jjy, ts => skeletonSlots ts
  | .wwvb, ts => wwvbSubst (skeletonSlots ts) ts
  | .bpc, ts => bpcSlots ts

/-- What a command can do to the state. -/
inductive Effect : Instr → State → State → Prop where
  /-- NOP. -/
  | nop (s : State) : Effect .nop s s
  /-- SOFT_RESET. -/
  | softReset (s : State) : Effect .softReset s s.resetRegs
  /-- An error of a command other than BUILD: STATUS alone. -/
  | failed {i : Instr} (e : CmdError) (s : State) (hi : isBuild i = false) (hn : i ≠ .nop) (hr : i ≠ .softReset)
      (hw : i ≠ .rewind) (hp : i = .pop → frameSpent s = true) (he : e.index = 0) :
      Effect i s (s.setStatus (errorStatus e))
  /-- A primitive's result. -/
  | result {i : Instr} (v : Nat) (tr : Bool) (s : State) (hi : isPrimitive i = true) : Effect i s (completeResult v tr s)
  /-- A failed BUILD. -/
  | buildFailed {i : Instr} (e : CmdError) (s : State) (hi : isBuild i = true) (he : isBuildError e) :
      Effect i s (s.setStatus (errorStatus e)).clearFrame
  /-- A successful BUILD. -/
  | built (std : Standard) (tr : Bool) (s : State)
      (hp : std = .bpc → bpcPhase (timeSample s).second = true) :
      Effect (buildOf std) s (completeOk tr (s.commitFrame (builtSlots std (timeSample s)) std))
  /-- A MAP. -/
  | mapped (std : Standard) (c : SymCode) (p : PulseReg) (s : State) (hp : pulse std c = some p) :
      Effect (mapOf std) s ((s.setPulse p).setStatus (successStatus false))
  /-- A POP with a symbol left. -/
  | popped (s : State) (h : frameSpent s = false) : Effect .pop s (deliverSymbol s)
  /-- REWIND. -/
  | rewound (s : State) : Effect .rewind s (completeOk false (s.setRdPtr 0))

/-- MAP's effect. -/
theorem mapSymbol_effect (std : Standard) (s : State) : Effect (mapOf std) s (mapSymbol std s) := by
  obtain ⟨-, h⟩ | ⟨p, -, hp, h⟩ := mapSymbol_cases std s
  · rw [h]
    cases std <;> exact .failed _ s rfl (by decide) (by decide) (by decide) (fun h => nomatch h) rfl
  · rw [h]
    exact .mapped std _ p s hp

/-- All that executing a command can do. -/
theorem exec_effect {i : Instr} {s t : State} (h : exec i s = .next t) : Effect i s t := by
  cases i with
  | nop => obtain rfl : s = t := by simpa [exec, execNop] using h
           exact .nop s
  | softReset => obtain rfl : s.resetRegs = t := by simpa [exec, execSoftReset] using h
                 exact .softReset s
  | bcd =>
    simp only [exec, execBcd, Host.Outcome.next.injEq] at h
    subst h
    by_cases hw : bitWidthLegal (operandW s) = true
    · rw [if_pos hw, fitb_eq]
      by_cases ho : s.truncEn = false ∧ 2 ^ operandW s ≤ operandN s
      · rw [if_pos ho]
        exact .failed _ s rfl (by decide) (by decide) (by decide) (fun h => nomatch h) rfl
      · rw [if_neg ho]
        exact .result _ _ s rfl
    · rw [if_neg hw]
      exact .failed _ s rfl (by decide) (by decide) (by decide) (fun h => nomatch h) rfl
  | quat =>
    simp only [exec, execQuat, Host.Outcome.next.injEq] at h
    subst h
    by_cases hw : quatWidthLegal (operandW s) = true
    · rw [if_pos hw, fitq_eq]
      by_cases ho : s.truncEn = false ∧ 4 ^ operandW s ≤ operandN s
      · rw [if_pos ho]
        exact .failed _ s rfl (by decide) (by decide) (by decide) (fun h => nomatch h) rfl
      · rw [if_neg ho]
        exact .result _ _ s rfl
    · rw [if_neg hw]
      exact .failed _ s rfl (by decide) (by decide) (by decide) (fun h => nomatch h) rfl
  | parity =>
    simp only [exec, execParity, Host.Outcome.next.injEq] at h
    subst h
    split
    · exact .result _ _ s rfl
    · exact .failed _ s rfl (by decide) (by decide) (by decide) (fun h => nomatch h) rfl
  | checksum =>
    simp only [exec, execChecksum, Host.Outcome.next.injEq] at h
    subst h
    split
    · exact .result _ _ s rfl
    · exact .failed _ s rfl (by decide) (by decide) (by decide) (fun h => nomatch h) rfl
  | buildJjy =>
    obtain ⟨e, he, hx⟩ | ⟨tr, -, hx⟩ := execBuildJjy_cases s
    · obtain rfl : _ = t := by simpa [exec, hx] using h
      exact .buildFailed e s rfl he
    · obtain rfl : _ = t := by simpa [exec, hx] using h
      exact .built .jjy tr s (fun h => nomatch h)
  | buildWwvb =>
    obtain ⟨e, he, hx⟩ | ⟨tr, -, hx⟩ := execBuildWwvb_cases s
    · obtain rfl : _ = t := by simpa [exec, hx] using h
      exact .buildFailed e s rfl he
    · obtain rfl : _ = t := by simpa [exec, hx] using h
      exact .built .wwvb tr s (fun h => nomatch h)
  | buildBpc =>
    obtain ⟨e, he, hx⟩ | ⟨tr, hp, hx⟩ := execBuildBpc_cases s
    · obtain rfl : _ = t := by simpa [exec, hx] using h
      exact .buildFailed e s rfl he
    · obtain rfl : _ = t := by simpa [exec, hx] using h
      exact .built .bpc tr s fun _ => hp
  | mapJjy => obtain rfl : mapSymbol .jjy s = t := by simpa [exec, execMapJjy] using h
              exact mapSymbol_effect .jjy s
  | mapWwvb => obtain rfl : mapSymbol .wwvb s = t := by simpa [exec, execMapWwvb] using h
               exact mapSymbol_effect .wwvb s
  | mapBpc => obtain rfl : mapSymbol .bpc s = t := by simpa [exec, execMapBpc] using h
              exact mapSymbol_effect .bpc s
  | pop =>
    simp only [exec, execPop, Host.Outcome.next.injEq] at h
    subst h
    by_cases hs : frameSpent s = true
    · rw [if_pos hs]
      exact .failed _ s rfl (by decide) (by decide) (by decide) (fun _ => hs) rfl
    · rw [if_neg hs]
      exact .popped s (by simpa using hs)
  | rewind => obtain rfl : completeOk false (s.setRdPtr 0) = t := by simpa [exec, execRewind] using h
              exact .rewound s

/-- No command touches the host's side of the bus. -/
theorem exec_host {i : Instr} {s t : State} (h : exec i s = .next t) :
    t.pending = s.pending ∧ t.response = s.response := by
  cases exec_effect h <;> exact ⟨rfl, rfl⟩

end Sys2Proof.Machine
end

