-- ==== Sys2Proof/Laws/PerInstr.lean ====
section
/-! SUPPORT. Families of lemmas with one lemma per command, about the commands as syntax. -/

namespace Sys2Proof.Laws

/-- The fields of an encoded command pass every check of WellFormed. -/
def EncodedFields.Statement (i : Instr) : Prop := (cmdFields (encode i)).wellFormed = true

theorem EncodedFields.nop : EncodedFields.Statement .nop := rfl
theorem EncodedFields.bcd : EncodedFields.Statement .bcd := rfl
theorem EncodedFields.quat : EncodedFields.Statement .quat := rfl
theorem EncodedFields.parity : EncodedFields.Statement .parity := rfl
theorem EncodedFields.checksum : EncodedFields.Statement .checksum := rfl
theorem EncodedFields.buildJjy : EncodedFields.Statement .buildJjy := rfl
theorem EncodedFields.buildWwvb : EncodedFields.Statement .buildWwvb := rfl
theorem EncodedFields.buildBpc : EncodedFields.Statement .buildBpc := rfl
theorem EncodedFields.mapJjy : EncodedFields.Statement .mapJjy := rfl
theorem EncodedFields.mapWwvb : EncodedFields.Statement .mapWwvb := rfl
theorem EncodedFields.mapBpc : EncodedFields.Statement .mapBpc := rfl
theorem EncodedFields.pop : EncodedFields.Statement .pop := rfl
theorem EncodedFields.rewind : EncodedFields.Statement .rewind := rfl
theorem EncodedFields.softReset : EncodedFields.Statement .softReset := rfl

end Sys2Proof.Laws
end

