-- ==== Sys2Proof/Tests/Slice0.lean ====
section
/-! SUPPORT. Tests on fixed values. Every expected value is the spec's: the encodings of R90 and R91
(30_encoding.md) or the vectors of 95_test_vectors.md (W1, W2 and V<n>, named in each docstring). The last section
shows that no statement's hypotheses are empty. -/

namespace Sys2Proof.Tests

open Sys2Proof.Machine Sys2Proof.Safety

/-! ### WellFormed: one ill-formed term for each check -/

/-- R92: bit 31 set beside OP = 8. -/
theorem test_reserved_bit_is_ill_formed :
    ({ op := 0x8, std := 0, res := 0x2000000 } : CmdFields).wellFormed = false
      ∧ ({ op := 0x8, std := 0, res := 0x2000000 } : CmdFields).reservedClear = false := by decide

/-- R93: NOP with STD = 1. -/
theorem test_stray_standard_is_ill_formed :
    ({ op := 0x0, std := 1, res := 0 } : CmdFields).wellFormed = false
      ∧ ({ op := 0x0, std := 1, res := 0 } : CmdFields).standardAllowed = false := by decide

/-- R94: BUILD and MAP with STD = 3. -/
theorem test_reserved_standard_is_ill_formed :
    ({ op := 0x8, std := 3, res := 0 } : CmdFields).wellFormed = false
      ∧ ({ op := 0x9, std := 3, res := 0 } : CmdFields).standardAllowed = false := by decide

/-- R95: OP = 5. -/
theorem test_unassigned_op_is_ill_formed :
    ({ op := 0x5, std := 0, res := 0 } : CmdFields).wellFormed = false
      ∧ ({ op := 0x5, std := 0, res := 0 } : CmdFields).opAssigned = false := by decide

/-! ### Decode: every command's word, written out bit by bit as RES STD OP -/

theorem test_decode_nop : decode 0b00000000000000000000000000_00_0000 = .ok .nop := by decide
theorem test_decode_bcd : decode 0b00000000000000000000000000_00_0001 = .ok .bcd := by decide
theorem test_decode_quat : decode 0b00000000000000000000000000_00_0010 = .ok .quat := by decide
theorem test_decode_parity : decode 0b00000000000000000000000000_00_0011 = .ok .parity := by decide
theorem test_decode_checksum : decode 0b00000000000000000000000000_00_0100 = .ok .checksum := by decide
theorem test_decode_build_jjy : decode 0b00000000000000000000000000_00_1000 = .ok .buildJjy := by decide
theorem test_decode_build_wwvb : decode 0b00000000000000000000000000_01_1000 = .ok .buildWwvb := by decide
theorem test_decode_build_bpc : decode 0b00000000000000000000000000_10_1000 = .ok .buildBpc := by decide
theorem test_decode_map_jjy : decode 0b00000000000000000000000000_00_1001 = .ok .mapJjy := by decide
theorem test_decode_map_wwvb : decode 0b00000000000000000000000000_01_1001 = .ok .mapWwvb := by decide
theorem test_decode_map_bpc : decode 0b00000000000000000000000000_10_1001 = .ok .mapBpc := by decide
theorem test_decode_pop : decode 0b00000000000000000000000000_00_1010 = .ok .pop := by decide
theorem test_decode_rewind : decode 0b00000000000000000000000000_00_1011 = .ok .rewind := by decide
theorem test_decode_soft_reset : decode 0b00000000000000000000000000_00_1111 = .ok .softReset := by decide

/-- V83, V84, V85, V86, V87, V88, V89: words rejected by name. -/
theorem test_decode_rejects_by_name :
    decode 0x00000030 = .error .strayStandard ∧ decode 0x00000005 = .error .unassignedOp
      ∧ decode 0x00000038 = .error .reservedStandard ∧ decode 0x00000011 = .error .strayStandard
      ∧ decode 0x00000041 = .error .reservedBits ∧ decode 0x80000008 = .error .reservedBits
      ∧ decode 0x00000039 = .error .reservedStandard := by decide

/-- The host's entry points: a table row's word decodes, and a step runs it. -/
theorem test_table_word_runs :
    decodeTableWord 32 0x28 = some .buildBpc ∧ decodeTableWord 8 0x0A = some .pop
      ∧ step (State.reset.withFetchWord 32 0x0A) =
          .next { State.reset with response := .ok, status := { err := 4, trunc := false, errIndex := 0 } } :=
  ⟨by decide, by decide, rfl⟩

/-! ### Small states -/

/-- The state a step or a command answers with, read through `f`. -/
def answer {α : Type} (f : State → α) : Host.Outcome State Fault Refusal → Option α
  | .next s => some (f s)
  | .fault _ => none
  | .refused _ => none

/-- Reset state with ARG_N, ARG_W and CONFIG written. -/
def primState (n w : Nat) (truncEn : Bool) : State :=
  { State.reset with argN := BitVec.ofNat 16 n, argW := BitVec.ofNat 5 w, truncEn := truncEn }

/-- RESULT and STATUS, as words. -/
def resultStatus (s : State) : Nat × Nat := (registerValue s .result, registerValue s .status)

/-- Reset state with the TS registers and CONFIG written. -/
def sampleState (date time yday : Nat) (truncEn : Bool) : State :=
  { State.reset with
    tsDate := .ofWord (BitVec.ofNat 32 date)
    tsTime := .ofWord (BitVec.ofNat 32 time)
    tsYday := BitVec.ofNat 16 yday
    truncEn := truncEn }

/-- W1's TimeSample. -/
def w1 : State := sampleState 0x010407D4 0x04001911 0x5C false

/-- W2's TimeSample. -/
def w2 : State := sampleState 0x090307D4 0x02000F09 0x45 false

/-- STATUS, FRAME_INFO and the first `n` symbols. -/
def statusInfoFrame (n : Nat) (s : State) : Nat × Nat × List Nat :=
  (registerValue s .status, registerValue s .frameInfo, (List.range n).map fun i => (slotOf s i).toNat)

/-- W1's frame, from the spec's golden vector. -/
def w1Symbols : List SymCode :=
  [2, 0, 1, 0, 0, 0, 1, 0, 1, 2, 0, 0, 0, 1, 0, 0, 1, 1, 1, 2, 0, 0, 0, 0, 0, 1, 0, 0, 1, 2, 0, 0, 1, 0, 0, 0, 0, 1, 0, 2,
    0, 0, 0, 0, 0, 0, 1, 0, 0, 2, 1, 0, 0, 0, 0, 0, 0, 0, 0, 2]

/-- W2's frame, from the spec's golden vector. -/
def w2Symbols : List SymCode := [0, 0, 2, 1, 0, 3, 3, 0, 2, 1, 0, 2, 1, 0, 3, 0, 1, 0, 1]

/-- A state that holds a frame, with RD_PTR at `rdPtr`. -/
def frameState (symbols : List SymCode) (std : BitVec 2) (rdPtr : BitVec 8) : State :=
  { State.reset with
    frame := Vector.ofFn fun i : Fin 60 => symbols.getD i 0
    frameInfo := { len := BitVec.ofNat 8 symbols.length, fstd := std, valid := true, rdPtr := rdPtr } }

/-- STATUS, SYM_OUT, PULSE and FRAME_INFO, as words. -/
def popView (s : State) : Nat × Nat × Nat × Nat :=
  (registerValue s .status, registerValue s .symOut, registerValue s .pulse, registerValue s .frameInfo)

/-- A state no reset machine reaches: a frame of a length no BUILD gives, with RD_PTR past the buffer. -/
def strayState : State := { State.reset with frameInfo := { len := 200, fstd := 3, valid := true, rdPtr := 70 } }

/-! ### Primitives -/

/-- V2, V5. -/
theorem test_bcd_fits : answer resultStatus (exec .bcd (primState 25 7 false)) = some (0x19, 0)
    ∧ answer resultStatus (exec .bcd (primState 0xFFFF 16 false)) = some (0xFFFF, 0) := by decide
/-- V3, V4, V6, V7. -/
theorem test_bcd_limits : answer resultStatus (exec .bcd (primState 16 4 false)) = some (0, 0x2)
    ∧ answer resultStatus (exec .bcd (primState 16 4 true)) = some (0, 0x8)
    ∧ answer resultStatus (exec .bcd (primState 5 0 false)) = some (0, 0x3)
    ∧ answer resultStatus (exec .bcd (primState 5 17 false)) = some (0, 0x3) := by decide
/-- V10, V13. -/
theorem test_quat_fits : answer resultStatus (exec .quat (primState 9 2 false)) = some (9, 0)
    ∧ answer resultStatus (exec .quat (primState 0xFFFF 8 false)) = some (0xFFFF, 0) := by decide
/-- V11, V12, V13. -/
theorem test_quat_limits : answer resultStatus (exec .quat (primState 64 3 false)) = some (0, 0x2)
    ∧ answer resultStatus (exec .quat (primState 64 3 true)) = some (0, 0x8)
    ∧ answer resultStatus (exec .quat (primState 0xFFFF 9 false)) = some (0, 0x3) := by decide
/-- V14, V15, V16, V17. -/
theorem test_parity : answer resultStatus (exec .parity (primState 7 3 false)) = some (1, 0)
    ∧ answer resultStatus (exec .parity (primState 7 2 false)) = some (0, 0)
    ∧ answer resultStatus (exec .parity (primState 0x17 6 false)) = some (0, 0)
    ∧ answer resultStatus (exec .parity (primState 0x25 7 false)) = some (1, 0) := by decide
/-- V18, V19 and the vector after them. -/
theorem test_checksum : answer resultStatus (exec .checksum (primState 0x93C 16 false)) = some (0, 0)
    ∧ answer resultStatus (exec .checksum (primState 0x24C4 16 false)) = some (1, 0)
    ∧ answer resultStatus (exec .checksum (primState 1 17 false)) = some (0, 3) := by decide

/-! ### Frames -/

/-- W1. -/
theorem test_build_jjy_golden :
    answer (statusInfoFrame 60) (exec .buildJjy w1) = some (0, 0x43C, w1Symbols.map (·.toNat)) := by decide
/-- V28, V30, V33, V34, V36. -/
theorem test_build_jjy_errors :
    answer (statusInfoFrame 1) (exec .buildJjy (sampleState 0x010407D4 0x04011911 0x5C false)) = some (0x1, 0, [0])
    ∧ answer (statusInfoFrame 1) (exec .buildJjy (sampleState 0x010407D4 0x04005011 0x5C false)) = some (0x102, 0, [0])
    ∧ answer (statusInfoFrame 1) (exec .buildJjy (sampleState 0x010407D4 0x04001928 0x5C false)) = some (0xC02, 0, [0])
    ∧ answer (statusInfoFrame 1) (exec .buildJjy (sampleState 0x010407D4 0x04001911 0x190 false)) = some (0x1602, 0, [0])
    ∧ answer (statusInfoFrame 1) (exec .buildJjy (sampleState 0x010407D4 0x041E5011 0x5C false)) = some (0x1, 0, [0]) := by
  decide
/-- V26: a Sunday in a year that is no leap year. -/
theorem test_build_wwvb_sunday :
    answer (statusInfoFrame 60) (exec .buildWwvb (sampleState 0x120607E7 0x07001E08 0xA9 false)) =
      some (0, 0x53C,
        [2, 0, 1, 1, 0, 0, 0, 0, 0, 2, 0, 0, 0, 0, 0, 1, 0, 0, 0, 2, 0, 0, 0, 1, 0, 0, 1, 1, 0, 2, 1, 0, 0, 1, 0, 0, 1, 0,
          0, 2, 0, 0, 0, 1, 0, 0, 0, 1, 1, 2, 0, 0, 0, 0, 0, 0, 0, 0, 0, 2]) := by decide
/-- V29, and V38: year 0 is a leap year. -/
theorem test_build_wwvb_limits :
    answer (statusInfoFrame 1) (exec .buildWwvb (sampleState 0x010407D4 0x043C1911 0x5C false)) = some (0x1, 0, [0])
    ∧ answer (fun s => (slotOf s 40).toNat) (exec .buildWwvb State.reset) = some 1 := by decide
/-- W2 with V78: the frame, and 0 past it. -/
theorem test_build_bpc_golden :
    answer (statusInfoFrame 20) (exec .buildBpc w2) = some (0, 0x613, w2Symbols.map (·.toNat) ++ [0]) := by decide
/-- V44, V51, V54. -/
theorem test_build_bpc_limits :
    answer (statusInfoFrame 1) (exec .buildBpc (sampleState 0x090307D4 0x02010F09 0 false)) = some (0x1, 0, [0])
    ∧ answer (statusInfoFrame 1) (exec .buildBpc (sampleState 0x090307D4 0x02000F1C 0 false)) = some (0x202, 0, [0])
    ∧ answer (statusInfoFrame 19) (exec .buildBpc (sampleState 0x1F0C0833 0x04283B17 0 true)) =
        some (0x8, 0x613, [2, 0, 2, 3, 3, 2, 3, 1, 0, 2, 1, 3, 3, 3, 0, 2, 0, 3, 0]) := by decide

/-! ### Mapper, read port, control -/

/-- V60, V65. -/
theorem test_map_jjy : answer popView (exec .mapJjy (primState 1 0 false)) = some (0, 0, 0x11F4, 0)
    ∧ answer popView (exec .mapJjy (primState 0x102 0 false)) = some (3, 0, 0, 0) := by decide
/-- V61, V63. -/
theorem test_map_wwvb : answer popView (exec .mapWwvb (primState 2 0 false)) = some (0, 0, 0x2320, 0)
    ∧ answer popView (exec .mapWwvb { primState 3 0 false with pulse := .ofWord 0x2320 }) = some (3, 0, 0x2320, 0) := by
  decide
/-- V62, V64. -/
theorem test_map_bpc : answer popView (exec .mapBpc (primState 3 0 false)) = some (0, 0, 0x2190, 0)
    ∧ answer popView (exec .mapBpc (primState 4 0 false)) = some (3, 0, 0, 0) := by decide
/-- V67, V70, V74: the first symbol, the last one, and one of BPC. -/
theorem test_pop_delivers :
    answer popView (exec .pop (frameState w1Symbols 0 0)) = some (0, 0x2, 0x10C8, 0x1043C)
    ∧ answer popView (exec .pop (frameState w1Symbols 0 59)) = some (0, 0x3B02, 0x10C8, 0x3C043C)
    ∧ answer popView (exec .pop (frameState w2Symbols 2 0)) = some (0, 0x20000, 0x2064, 0x10613) := by decide
/-- V66, V71. -/
theorem test_pop_exhausted :
    answer popView (exec .pop State.reset) = some (4, 0, 0, 0)
    ∧ answer popView (exec .pop (frameState w1Symbols 0 60)) = some (4, 0, 0, 0x3C043C) := by decide
/-- V72, V73. -/
theorem test_rewind :
    answer popView (exec .rewind (frameState w1Symbols 0 60)) = some (0, 0, 0, 0x43C)
    ∧ answer popView (exec .rewind State.reset) = some (0, 0, 0, 0) := by decide
/-- V80: NOP keeps STATUS. -/
theorem test_nop_keeps_status :
    answer popView (exec .nop { State.reset with status := .ofWord 0x102 }) = some (0x102, 0, 0, 0) := by decide
/-- V81, V82. -/
theorem test_soft_reset_clears :
    answer State.toRegs (exec .softReset { frameState w1Symbols 0 3 with truncEn := true, argN := 5 }) = some Regs.reset := by
  decide
/-- V90, V93, V94, V95: host writes keep the stored fields only. -/
theorem test_host_writes :
    answer (registerValue · .status) (step { State.reset with pending := [.write 0x004 4 7] }) = some 0
    ∧ answer (registerValue · .config) (step { State.reset with pending := [.write 0x008 4 0xFFFFFFFF] }) = some 1
    ∧ answer (registerValue · .argW) (step { State.reset with pending := [.write 0x010 4 0xFF] }) = some 0x1F
    ∧ answer (registerValue · .tsYday) (step { State.reset with pending := [.write 0x020 4 0x12340170] }) = some 0x170 := by
  decide
/-- V77, V97: reads of the last frame entry and of an unmapped offset. -/
theorem test_host_reads :
    answer State.response (step { frameState w1Symbols 0 0 with pending := [.read 0x1EC 4] }) = some (.data 2)
    ∧ answer State.response (step { frameState w1Symbols 0 0 with pending := [.read 0x1F0 4] }) = some .busError := by decide
/-- V99: the byte lanes of FRAME_INFO = 0x43C. -/
theorem test_byte_lanes : lanesOfWord 0x0000043C = [0x3C, 0x04, 0x00, 0x00] := by decide

/-! ### No statement's hypotheses are empty -/

/-- IllegalWordsAreRejectedByName: words at the bounds of each clause. -/
theorem witness_IllegalWordsAreRejectedByName :
    64 ≤ (0x40 : Word).toNat ∧ 64 ≤ (0xFFFFFFFF : Word).toNat ∧ (0x38 : Word).toNat = 0x38 ∧ (0x39 : Word).toNat = 0x39
      ∧ (16 ≤ (0x10 : Word).toNat ∧ (0x10 : Word).toNat < 64 ∧ (0x10 : Word).toNat % 16 ≠ 8 ∧ (0x10 : Word).toNat % 16 ≠ 9)
      ∧ (16 ≤ (0x3F : Word).toNat ∧ (0x3F : Word).toNat < 64 ∧ (0x3F : Word).toNat % 16 ≠ 8 ∧ (0x3F : Word).toNat % 16 ≠ 9)
      ∧ (0x5 : Word).toNat ∈ [0x5, 0x6, 0x7, 0xC, 0xD, 0xE] ∧ (0xE : Word).toNat ∈ [0x5, 0x6, 0x7, 0xC, 0xD, 0xE] := by
  decide

/-- LanesAreLittleEndian: a lane number, and lists of other lengths. -/
theorem witness_LanesAreLittleEndian :
    0 < 4 ∧ 3 < 4 ∧ ([] : List Byte).length ≠ 4 ∧ ([0, 0, 0] : List Byte).length ≠ 4
      ∧ ([8, 0, 0, 0, 0] : List Byte).length ≠ 4 := by decide

/-- OnlyTableWordsDecode, StepRunsDecodedCommand and the illegal word of ErrorsAreAllOrNothing: a word that decodes,
and one that does not. -/
theorem witness_StepRunsDecodedCommand :
    decode 0x00000018 = .ok .buildWwvb ∧ decode 0x00000038 = .error .reservedStandard := by decide

/-- IllegalWordSetsStatusOnly: a word of each clause. -/
theorem witness_IllegalWordSetsStatusOnly :
    (0x40 : Word).extractLsb' 6 26 ≠ 0 ∧ (0x80000008 : Word).extractLsb' 6 26 ≠ 0
      ∧ ((0x10 : Word).extractLsb' 0 4 ≠ 8#4 ∧ (0x10 : Word).extractLsb' 0 4 ≠ 9#4 ∧ (0x10 : Word).extractLsb' 4 2 ≠ 0#2)
      ∧ ((0x38 : Word).extractLsb' 0 4 = 8#4 ∧ (0x38 : Word).extractLsb' 4 2 = 3#2)
      ∧ ((0x39 : Word).extractLsb' 0 4 = 9#4 ∧ (0x39 : Word).extractLsb' 4 2 = 3#2)
      ∧ (0x05 : Word).extractLsb' 0 4 ∈ [0x5#4, 0x6#4, 0x7#4, 0xC#4, 0xD#4, 0xE#4] := by decide

/-- BusErrorChangesNothing: an access of each clause, at its bounds. -/
theorem witness_BusErrorChangesNothing :
    1 ≠ 4 ∧ (0x002 : Offset).toNat % 4 ≠ 0
      ∧ (0x30 ≤ (0x030 : Offset).toNat ∧ (0x030 : Offset).toNat < 0x100)
      ∧ (0x30 ≤ (0x0FC : Offset).toNat ∧ (0x0FC : Offset).toNat < 0x100)
      ∧ 0x1F0 ≤ (0x1F0 : Offset).toNat ∧ 0x1F0 ≤ (0x1FC : Offset).toNat := by decide

/-- WritesStoreFieldsOnly: a register that stores, one that does not, and a frame entry. -/
theorem witness_WritesStoreFieldsOnly :
    Reg.argW ≠ .cmd ∧ storedBits .argW ≠ 0 ∧ Reg.status ≠ .cmd ∧ storedBits .status = 0
      ∧ Reg.frameSym 59 ≠ .cmd ∧ storedBits (.frameSym 59) = 0 := by decide

/-- AddressGivesOffset: the first and the last offset. -/
theorem witness_AddressGivesOffset : 0 < 512 ∧ 511 < 512 := by decide

/-- ChecksumResult: W2's indices 10 to 17 (V19), the widest case, and the narrowest. -/
theorem witness_ChecksumResult :
    (let c : List SymCode := [0, 2, 1, 0, 3, 0, 1, 0]
     let s := primState 0x24C4 16 false
     1 ≤ c.length ∧ c.length ≤ 8
       ∧ s.argN.toNat = ((List.range c.length).map fun i => (c.getD i 0).toNat * 4 ^ (c.length - 1 - i)).sum
       ∧ s.argW.toNat = 2 * c.length)
    ∧ (let c : List SymCode := [2]
       let s := primState 2 2 false
       1 ≤ c.length ∧ c.length ≤ 8
         ∧ s.argN.toNat = ((List.range c.length).map fun i => (c.getD i 0).toNat * 4 ^ (c.length - 1 - i)).sum
         ∧ s.argW.toNat = 2 * c.length) := by decide

/-- BitFlipFlipsParity: the last bit of W1's minute code (V17). -/
theorem witness_BitFlipFlipsParity :
    6 < [false, true, false, false, true, false, true].length ∧ parity [false, true, false, false, true, false, true] = true := by
  decide

/-- MarkersOfBuiltFrames, BuildDependsOnSampleOnly and PolicyMattersOnOverflowOnly: BUILDs that succeed, and indices of
both clauses. -/
theorem witness_MarkersOfBuiltFrames :
    answer (·.status.err) (exec .buildJjy w1) = some 0 ∧ answer (·.status.err) (exec .buildWwvb w1) = some 0
      ∧ 59 < 60 ∧ 59 ∈ [0, 9, 19, 29, 39, 49, 59] ∧ 58 ∉ [0, 9, 19, 29, 39, 49, 59] := by decide

/-- WwvbDiffersAtLeapSlotOnly: a BUILD.JJY that succeeds. -/
theorem witness_WwvbDiffersAtLeapSlotOnly : answer (·.status.err) (exec .buildJjy w1) = some 0 ∧ 59 ≠ 40 := by decide

/-- BpcChecksumLaws and BpcThirdsOfOneMinute: BUILD.BPC succeeds at seconds 0, 20 and 40 of one minute (V40, V42, V43). -/
theorem witness_BpcThirdsOfOneMinute :
    answer (·.status.err) (exec .buildBpc { w2 with tsTime := { w2.tsTime with second := 0 } }) = some 0
      ∧ answer (·.status.err) (exec .buildBpc { w2 with tsTime := { w2.tsTime with second := 20 } }) = some 0
      ∧ answer (·.status.err) (exec .buildBpc { w2 with tsTime := { w2.tsTime with second := 40 } }) = some 0 := by decide

/-- BpcChecksumLaws: a PM hour and an AM hour at the boundary (V45). -/
theorem witness_BpcChecksumLaws :
    answer (fun s => (s.status.err.toNat, (slotOf s 9).toNat)) (exec .buildBpc (sampleState 0x090307D4 0x0200000C 0 false))
      = some (0, 3)
    ∧ answer (fun s => (s.status.err.toNat, (slotOf s 9).toNat)) (exec .buildBpc (sampleState 0x090307D4 0x02000000 0 false))
      = some (0, 1) := by decide

/-- BuildDependsOnSampleOnly: two different states with the same sample and policy. -/
theorem witness_BuildDependsOnSampleOnly :
    let s := w1
    let s' := { w1 with argN := 7, result := 9, status := .ofWord 0x102 }
    isBuild .buildBpc = true ∧ s ≠ s' ∧ s.tsDate = s'.tsDate ∧ s.tsTime = s'.tsTime ∧ s.tsYday = s'.tsYday
      ∧ s.truncEn = s'.truncEn := by decide

/-- PolicyMattersOnOverflowOnly: a success and a phase error under Fail. -/
theorem witness_PolicyMattersOnOverflowOnly :
    isBuild .buildJjy = true ∧ answer (·.status.err) (exec .buildJjy { w1 with truncEn := false }) = some 0
      ∧ answer (·.status.err)
          (exec .buildJjy { sampleState 0x010407D4 0x04011911 0x5C true with truncEn := false }) = some 1 := by decide

/-- BuildLeavesLegalFrame, FailedBuildLeavesNothingToPop, and the BUILD case of ErrorsAreAllOrNothing: BUILDs that fail (V30, V44). -/
theorem witness_FailedBuildLeavesNothingToPop :
    isBuild .buildJjy = true ∧ isBuild .buildBpc = true
      ∧ answer (·.status.err) (exec .buildJjy (sampleState 0x010407D4 0x04005011 0x5C false)) = some 2
      ∧ answer (·.status.err) (exec .buildBpc (sampleState 0x090307D4 0x02010F09 0 false)) = some 1 := by decide

/-- The other case of ErrorsAreAllOrNothing, and EveryCommandLeavesLegalStatus: a BCD that overflows. -/
theorem witness_ErrorsAreAllOrNothing :
    Instr.bcd ≠ .nop ∧ isBuild .bcd = false ∧ answer (·.status.err) (exec .bcd (primState 16 4 false)) = some 2 := by decide

/-- EveryCommandLeavesLegalStatus: a truncation, the other shape of STATUS. -/
theorem witness_EveryCommandLeavesLegalStatus :
    Instr.bcd ≠ .nop ∧ answer (·.status.trunc) (exec .bcd (primState 16 4 true)) = some true := by decide

/-- PopExhaustedChangesStatusOnly: no frame, and a frame with every symbol delivered. -/
theorem witness_PopExhaustedChangesStatusOnly :
    State.reset.frameInfo.valid = false
      ∧ (frameState w1Symbols 0 60).frameInfo.len.toNat ≤ (frameState w1Symbols 0 60).frameInfo.rdPtr.toNat := by decide

/-- PopCompletesInEveryState: a state no reset machine reaches, and a symbol inside the buffer with a profile. -/
theorem witness_PopCompletesInEveryState :
    (strayState.frameInfo.valid = true ∧ strayState.frameInfo.rdPtr.toNat < strayState.frameInfo.len.toNat)
      ∧ (let s := frameState w2Symbols 2 18
         s.frameInfo.valid = true ∧ s.frameInfo.rdPtr.toNat < s.frameInfo.len.toNat ∧ s.frameInfo.rdPtr.toNat < 60
           ∧ pulseTable s.frameInfo.fstd (slotOf s s.frameInfo.rdPtr.toNat) ≠ 0) := by decide

/-- CommandsWriteOnlyTheirRegisters: a register each kind of command may not write. -/
theorem witness_CommandsWriteOnlyTheirRegisters :
    mayWrite .nop .status = false ∧ mayWrite .bcd .pulse = false ∧ mayWrite .mapJjy .symOut = false
      ∧ mayWrite .pop (.frameSym 0) = false ∧ mayWrite .rewind .pulse = false ∧ mayWrite .buildBpc .result = false := by
  decide

/-- RdPtrAdvancesByPopOnly: a command of each clause, a POP that succeeds and one that fails. -/
theorem witness_RdPtrAdvancesByPopOnly :
    isBuild .buildBpc = true ∧ answer (·.status.err) (exec .pop (frameState w1Symbols 0 59)) = some 0
      ∧ answer (·.status.err) (exec .pop (frameState w1Symbols 0 60)) = some 4
      ∧ isBuild .mapBpc = false ∧ Instr.mapBpc ≠ .rewind ∧ Instr.mapBpc ≠ .softReset ∧ Instr.mapBpc ≠ .pop := by decide

/-- Past the buffer no slot holds a symbol. -/
theorem slotOf_past (s : State) (i : Nat) (h : 60 ≤ i) : slotOf s i = 0 := by
  simp [slotOf, Nat.not_lt.2 h]

/-- A state that holds W1's frame is legal at every RD_PTR up to 60. -/
theorem frameState_w1_legal (rdPtr : BitVec 8) (h : rdPtr.toNat ≤ 60) : Legal (frameState w1Symbols 0 rdPtr) where
  info := ⟨by decide +revert, fun _ => .inl ⟨rfl, .inl rfl⟩, (fun h => nomatch h), h⟩
  frame := ⟨fun i hi => slotOf_past _ i hi,
    fun _ _ i hi => (by decide : ∀ i < 60, if i ∈ markerIndices then slotOf (frameState w1Symbols 0 0) i = 2
      else slotOf (frameState w1Symbols 0 0) i = 0 ∨ slotOf (frameState w1Symbols 0 0) i = 1) i hi,
    (fun h => nomatch h), (fun h => nomatch h), fun h => nomatch h⟩
  status := ⟨Nat.zero_le 4, fun _ => rfl, fun h => absurd rfl h⟩
  output := ⟨.inl rfl, .inl (by decide : State.reset.pulse.toWord = 0)⟩

/-- A state that holds W2's frame is legal at every RD_PTR up to 19. -/
theorem frameState_w2_legal (rdPtr : BitVec 8) (h : rdPtr.toNat ≤ 19) : Legal (frameState w2Symbols 2 rdPtr) where
  info := ⟨by decide +revert, fun _ => .inr ⟨rfl, rfl⟩, (fun h => nomatch h), h⟩
  frame := ⟨fun i hi => (Nat.lt_or_ge i 60).elim
      (fun h60 => (by decide : ∀ i < 60, 19 ≤ i → slotOf (frameState w2Symbols 2 0) i = 0) i h60 hi) (slotOf_past _ i),
    fun _ h => absurd rfl h, fun _ => (by decide : slotOf (frameState w2Symbols 2 0) 0 ≠ 3 ∧ slotOf (frameState w2Symbols 2 0) 1 = 0),
    fun _ => (by decide : (slotOf (frameState w2Symbols 2 0) 9).toNat % 2 = onesFrom (slotOf (frameState w2Symbols 2 0)) 0 9 % 2),
    fun _ => (by decide : (slotOf (frameState w2Symbols 2 0) 18).toNat = onesFrom (slotOf (frameState w2Symbols 2 0)) 10 8 % 2)⟩
  status := ⟨Nat.zero_le 4, fun _ => rfl, fun h => absurd rfl h⟩
  output := ⟨.inl rfl, .inl (by decide : State.reset.pulse.toWord = 0)⟩

/-- PopDeliversNextSymbol and RewindRestartsDelivery: legal states with every symbol delivered and with only the last
one left, and one with no frame. -/
theorem witness_PopDeliversNextSymbol :
    (Legal (frameState w1Symbols 0 60)
        ∧ (frameState w1Symbols 0 60).frameInfo.len.toNat ≤ (frameState w1Symbols 0 60).frameInfo.rdPtr.toNat)
      ∧ (FrameInfoLegal State.reset ∧ State.reset.frameInfo.valid = false)
      ∧ Legal (frameState w2Symbols 2 18) ∧ (frameState w2Symbols 2 18).frameInfo.valid = true
      ∧ (frameState w2Symbols 2 18).frameInfo.rdPtr.toNat < (frameState w2Symbols 2 18).frameInfo.len.toNat :=
  ⟨⟨frameState_w1_legal 60 (by decide), by decide⟩,
    ⟨⟨by decide, (fun h => nomatch h), fun _ => ⟨rfl, rfl⟩, by decide⟩, rfl⟩, frameState_w2_legal 18 (by decide), rfl, by decide⟩

/-- PopsDeliverFrameInOrder: a legal state at the start of its frame, and the first and last index. -/
theorem witness_PopsDeliverFrameInOrder :
    Legal (frameState w1Symbols 0 0) ∧ (frameState w1Symbols 0 0).frameInfo.valid = true
      ∧ (frameState w1Symbols 0 0).frameInfo.rdPtr = 0 ∧ 0 < (frameState w1Symbols 0 0).frameInfo.len.toNat
      ∧ 59 < (frameState w1Symbols 0 0).frameInfo.len.toNat :=
  ⟨frameState_w1_legal 0 (by decide), rfl, rfl, by decide, by decide⟩

/-- A legal state stays legal when a host event is put before it. -/
theorem legal_of_pending {s : State} (h : Legal s) (events : List HostEvent) : Legal { s with pending := events } :=
  ⟨⟨h.info.valid_iff, h.info.len_of_valid, h.info.none_held, h.info.rdPtr_le⟩,
    ⟨h.frame.tail_zero, h.frame.markers, h.frame.bpc_head, h.frame.bpc_p3, h.frame.bpc_p4⟩,
    ⟨h.status.err_le, h.status.trunc_clear, h.status.index_of_overflow⟩,
    ⟨h.output.sym_of_frame, h.output.pulse_of_table⟩⟩

/-- StepKeepsLegal and StepKeepsFrameInfoLegal: a legal state whose step runs a POP to a next state. -/
theorem witness_StepKeepsLegal :
    Legal { frameState w1Symbols 0 59 with pending := [.write 0x000 4 0x0A] }
      ∧ FrameInfoLegal { frameState w1Symbols 0 59 with pending := [.write 0x000 4 0x0A] }
      ∧ answer popView (step { frameState w1Symbols 0 59 with pending := [.write 0x000 4 0x0A] }) =
          some (0, 0x3B02, 0x10C8, 0x3C043C) :=
  ⟨legal_of_pending (frameState_w1_legal 59 (by decide)) _, (legal_of_pending (frameState_w1_legal 59 (by decide)) _).info,
    by decide⟩

end Sys2Proof.Tests
end

section
/-! PROOFS, family 10_state: the invariants of FRAME_INFO and of a legal state (R31, R34, R191, R236, R331). -/

namespace Sys2Proof.StateFamily

open Sys2Proof.Machine Sys2Proof.Safety

/-! ### What a step can do, by effect -/

/-- Two states hold the same in every register that only commands write, RESULT aside, and in the frame buffer. -/
structure SameOutputs (s t : State) : Prop where
  status : t.status = s.status
  frameInfo : t.frameInfo = s.frameInfo
  symOut : t.symOut = s.symOut
  pulse : t.pulse = s.pulse
  frame : t.frame = s.frame

/-- No host write reaches a register that only commands write (R22). -/
theorem storeReg_sameOutputs (r : Reg) (v : Word) (s : State) : SameOutputs s (storeReg r v s) := by
  cases r <;> exact ⟨rfl, rfl, rfl, rfl, rfl⟩

theorem respond_sameOutputs (a : BusResponse) (s : State) : SameOutputs s (s.respond a) := ⟨rfl, rfl, rfl, rfl, rfl⟩

theorem pending_sameOutputs (events : List HostEvent) (s : State) : SameOutputs s { s with pending := events } :=
  ⟨rfl, rfl, rfl, rfl, rfl⟩

/-- An illegal word does to the state what a BCD of illegal width can do to it (R323). -/
theorem illegal_effect (s : State) : Effect .bcd s (s.setStatus (errorStatus illegalCommand)) :=
  .failed _ s rfl (by decide) (by decide) (by decide) (fun h => nomatch h) rfl

/-- A predicate on the registers commands write is kept by every step if every command's effect keeps it: a host write
does not reach those registers, an illegal word acts as a failing command and the reset input as SOFT_RESET. -/
theorem step_keeps {P : State → Prop} (hsame : ∀ {s t}, SameOutputs s t → P s → P t)
    (heffect : ∀ {i s t}, Effect i s t → P s → P t) {s t : State} (hs : P s) (h : step s = .next t) : P t := by
  obtain ⟨-, rfl⟩ | ⟨e, rest, -, hserve⟩ := step_cases h
  · exact hs
  have hs' := hsame (pending_sameOutputs rest s) hs
  obtain ⟨a, rfl⟩ | ⟨r, v, rfl⟩ | ⟨i, u, hu, rfl⟩ | rfl | rfl := serve_cases hserve
  · exact hsame (respond_sameOutputs _ _) hs'
  · exact hsame (respond_sameOutputs _ _) (hsame (storeReg_sameOutputs r v _) hs')
  · exact hsame (respond_sameOutputs _ _) (heffect (exec_effect hu) hs')
  · exact hsame (respond_sameOutputs _ _) (heffect (illegal_effect _) hs')
  · exact hsame (respond_sameOutputs _ _) (heffect (.softReset _) hs')

/-! ### FRAME_INFO -/

/-- The length of a standard's frame (R31). -/
def frameLen : Standard → Nat
  | .jjy => 60
  | .wwvb => 60
  | .bpc => 19

@[simp] theorem builtSlots_length (std : Standard) (ts : TimeSample) : (builtSlots std ts).length = frameLen std := by
  cases std <;> simp [builtSlots, frameLen]

theorem frameLen_le (std : Standard) : frameLen std ≤ 60 := by cases std <;> decide

/-- FRAME_INFO after a BUILD that commits a frame of a standard (R190). -/
def freshInfo (std : Standard) : FrameInfoReg :=
  { len := BitVec.ofNat 8 (frameLen std), fstd := std.code, valid := true, rdPtr := 0 }

theorem completeOk_commitFrame_frameInfo (std : Standard) (tr : Bool) (s : State) (ts : TimeSample) :
    (completeOk tr (s.commitFrame (builtSlots std ts) std)).frameInfo = freshInfo std := by
  simp [completeOk, freshInfo]

theorem freshInfo_len (std : Standard) : (freshInfo std).len.toNat = frameLen std := by cases std <;> rfl

/-- The invariants of FRAME_INFO speak of that register alone. -/
theorem frameInfoLegal_of_eq {s t : State} (h : FrameInfoLegal s) (e : t.frameInfo = s.frameInfo) : FrameInfoLegal t :=
  ⟨e ▸ h.valid_iff, e ▸ h.len_of_valid, e ▸ h.none_held, e ▸ h.rdPtr_le⟩

/-- With no frame held and all of FRAME_INFO 0 the invariants hold. -/
theorem frameInfoLegal_of_zero {t : State} (e : t.frameInfo = Regs.reset.frameInfo) : FrameInfoLegal t := by
  constructor <;> simp [e, Regs.reset]

theorem frameInfoLegal_of_fresh {t : State} {std : Standard} (e : t.frameInfo = freshInfo std) : FrameInfoLegal t := by
  constructor <;> rw [e] <;> cases std <;> decide

/-- A held frame of a legal FRAME_INFO has at most 60 entries. -/
theorem len_le_of_legal {s : State} (h : FrameInfoLegal s) : s.frameInfo.len.toNat ≤ 60 := by
  cases hv : s.frameInfo.valid with
  | false =>
    have hlen : s.frameInfo.len = 0 := by simpa [hv] using h.valid_iff
    simp [hlen]
  | true =>
    obtain ⟨hlen, -⟩ | ⟨hlen, -⟩ := h.len_of_valid hv <;> simp [hlen]

/-- What POP's test lets through (R270). -/
theorem frameSpent_eq_false_iff (s : State) :
    frameSpent s = false ↔ s.frameInfo.valid = true ∧ s.frameInfo.rdPtr.toNat < s.frameInfo.len.toNat := by
  rw [← Bool.not_eq_true, frameSpent_iff]
  simp

/-- A symbol left means RD_PTR can advance without wrapping (R36). -/
theorem rdPtr_succ_toNat {p len : BitVec 8} (h : p.toNat < len.toNat) : (p + 1).toNat = p.toNat + 1 := by
  bv_omega

/-- R31 under any RD_PTR that does not pass LEN, and is 0 with no frame. -/
theorem frameInfoLegal_of_rdPtr {s t : State} {p : BitVec 8} (h : FrameInfoLegal s)
    (e : t.frameInfo = { s.frameInfo with rdPtr := p }) (hp : p.toNat ≤ s.frameInfo.len.toNat)
    (h0 : s.frameInfo.valid = false → p = 0) : FrameInfoLegal t where
  valid_iff := by rw [e]; exact h.valid_iff
  len_of_valid := by rw [e]; exact h.len_of_valid
  none_held := by rw [e]; exact fun hv => ⟨(h.none_held hv).1, h0 hv⟩
  rdPtr_le := by rw [e]; exact hp

/-- Every command's effect keeps the invariants of FRAME_INFO. -/
theorem effect_keeps_frameInfoLegal {i : Instr} {s t : State} (h : Effect i s t) (hs : FrameInfoLegal s) :
    FrameInfoLegal t := by
  cases h with
  | nop => exact hs
  | softReset => exact frameInfoLegal_of_zero rfl
  | failed => exact frameInfoLegal_of_eq hs rfl
  | result => exact frameInfoLegal_of_eq hs rfl
  | buildFailed => exact frameInfoLegal_of_zero rfl
  | built std tr => exact frameInfoLegal_of_fresh (completeOk_commitFrame_frameInfo std tr s _)
  | mapped => exact frameInfoLegal_of_eq hs rfl
  | popped _ hleft =>
    obtain ⟨hv, hlt⟩ := (frameSpent_eq_false_iff s).1 hleft
    refine frameInfoLegal_of_rdPtr hs rfl ?_ (by simp [hv])
    rw [rdPtr_succ_toNat hlt]
    exact hlt
  | rewound => exact frameInfoLegal_of_rdPtr hs rfl (Nat.zero_le _) fun _ => rfl

/-- Settles O51: every command's effect keeps the invariants, and so does every step. -/
theorem stepKeepsFrameInfoLegal : Obligations.StepKeepsFrameInfoLegal := by
  intro s t hs h
  exact step_keeps (P := FrameInfoLegal) (fun hsame hP => frameInfoLegal_of_eq hP hsame.frameInfo)
    effect_keeps_frameInfoLegal hs h

end Sys2Proof.StateFamily
end

section
/-! PROOFS, family 10_state: what a BUILD commits (R191, R223, R224, R236). -/

namespace Sys2Proof.StateFamily

open Sys2Proof.Machine Sys2Proof.Safety

/-! ### The committed frame, by index -/

/-- A committed frame read by index: its slots, and 0 past them (R190). -/
theorem slotOf_commitFrame {f : List SymCode} (hf : f.length ≤ 60) (tr : Bool) (std : Standard) (s : State) (i : Nat) :
    slotOf (completeOk tr (s.commitFrame f std)) i = f.getD i 0 := by
  by_cases hi : i < 60
  · simp [slotOf, hi, completeOk]
  · rw [List.getD_eq_default _ _ (by omega)]
    simp [slotOf, hi]

/-! ### Markers -/

/-- R191's shape of a JJY or WWVB frame: Marker at exactly the seven indices, Zero or One elsewhere. -/
def MarkerFrame (f : List SymCode) : Prop :=
  ∀ i, i < 60 → if i ∈ markerIndices then f.getD i 0 = 2 else f.getD i 0 = 0 ∨ f.getD i 0 = 1

theorem symOfBit_eq_zero_or_one (b : Bool) : symOfBit b = 0 ∨ symOfBit b = 1 := by
  cases b
  · exact .inl rfl
  · exact .inr rfl

/-- No field slot holds a Marker. -/
@[simp] theorem symOfBit_ne_marker (b : Bool) : (symOfBit b == symMarker) = false := by cases b <;> rfl

/-- The field slots of a frame, as Marker flags: none. -/
@[simp] theorem map_isMarker_data (bits : List Bool) :
    (bits.map symOfBit).map (· == symMarker) = List.replicate bits.length false := by
  simp [Function.comp_def]

/-- Every slot of the layout is a Marker or stands for a bit. -/
theorem frameLayout_forall {mc hc dh dt du yt yu wd : List Bool} {P : SymCode → Prop} (hmarker : P symMarker)
    (hbit : ∀ b, P (symOfBit b)) : ∀ c ∈ frameLayout mc hc dh dt du yt yu wd, P c := by
  have hzero : P symZero := hbit false
  unfold frameLayout
  simp only [List.forall_mem_append, List.forall_mem_map, List.forall_mem_cons, List.not_mem_nil, List.mem_replicate]
  simp [hmarker, hbit, hzero]

/-- The Markers of the layout stand at R191's seven indices when every field has its width. -/
theorem frameLayout_isMarker {mc hc dh dt du yt yu wd : List Bool} (hmc : mc.length = 7) (hhc : hc.length = 6)
    (hdh : dh.length = 2) (hdt : dt.length = 4) (hdu : du.length = 4) (hyt : yt.length = 4) (hyu : yu.length = 4)
    (hwd : wd.length = 3) :
    (frameLayout mc hc dh dt du yt yu wd).map (· == symMarker) =
      (List.range 60).map fun i => decide (i ∈ markerIndices) := by
  unfold frameLayout
  simp only [List.map_append, map_isMarker_data, List.length_take, List.length_drop, List.length_singleton, hmc, hhc, hdh,
    hdt, hdu, hyt, hyu, hwd]
  decide

theorem skeletonSlots_mem {ts : TimeSample} {c : SymCode} (h : c ∈ skeletonSlots ts) :
    c = symMarker ∨ ∃ b, c = symOfBit b :=
  frameLayout_forall (P := fun c => c = symMarker ∨ ∃ b, c = symOfBit b) (.inl rfl) (fun b => .inr ⟨b, rfl⟩) c h

theorem skeletonSlots_markerFrame (ts : TimeSample) : MarkerFrame (skeletonSlots ts) := by
  intro i hi
  have hlen : i < (skeletonSlots ts).length := by simpa using hi
  have hmap : (skeletonSlots ts).map (· == symMarker) = (List.range 60).map fun i => decide (i ∈ markerIndices) := by
    unfold skeletonSlots
    apply frameLayout_isMarker <;> simp
  have hmarker : ((skeletonSlots ts)[i] == symMarker) = decide (i ∈ markerIndices) := by
    simpa [hlen, hi] using congrArg (·[i]?) hmap
  rw [List.getD_eq_getElem _ _ hlen]
  obtain hm | ⟨b, hb⟩ := skeletonSlots_mem (List.getElem_mem hlen)
  · have : i ∈ markerIndices := by simpa [hm] using hmarker.symm
    simp [this, hm, symMarker]
  · have : i ∉ markerIndices := by simpa [hb] using hmarker.symm
    simpa [this, hb] using symOfBit_eq_zero_or_one b

/-- A bit put at an index without a Marker keeps R191's shape. -/
theorem markerFrame_set {f : List SymCode} (h : MarkerFrame f) (j : Nat) (hj : j ∉ markerIndices) (b : Bool) :
    MarkerFrame (f.set j (symOfBit b)) := by
  by_cases hlen : f.length ≤ j
  · rwa [List.set_eq_of_length_le hlen]
  intro i hi
  by_cases hij : j = i
  · subst hij
    simpa [hj, List.getD_eq_getElem?_getD, Nat.not_le.1 hlen] using symOfBit_eq_zero_or_one b
  · rw [List.getD_eq_getElem?_getD, List.getElem?_set_ne hij, ← List.getD_eq_getElem?_getD]
    exact h i hi

theorem wwvbSubst_markerFrame {f : List SymCode} (h : MarkerFrame f) (ts : TimeSample) : MarkerFrame (wwvbSubst f ts) :=
  markerFrame_set (markerFrame_set (markerFrame_set (markerFrame_set h 34 (by decide) false) 35 (by decide) false)
    38 (by decide) false) 40 (by decide) _

/-- The frame of a standard with Markers has R191's shape. -/
theorem builtSlots_markerFrame {std : Standard} (h : std ≠ .bpc) (ts : TimeSample) : MarkerFrame (builtSlots std ts) := by
  cases std with
  | jjy => exact skeletonSlots_markerFrame ts
  | wwvb => exact wwvbSubst_markerFrame (skeletonSlots_markerFrame ts) ts
  | bpc => exact absurd rfl h

/-! ### Check symbols of BPC -/

theorem popcount_codeBits (c : SymCode) : popcount (codeBits c) = ones c := by
  revert c
  decide

/-- The bits of a code sequence are counted code by code (R141). -/
theorem popcount_qbits (codes : List SymCode) : popcount (qbits codes) = (codes.map ones).sum := by
  induction codes with
  | nil => rfl
  | cons c codes ih =>
    have hsplit : popcount (qbits (c :: codes)) = popcount (codeBits c) + popcount (qbits codes) := by
      simp [popcount, qbits]
    rw [hsplit, ih, popcount_codeBits, List.map_cons, List.sum_cons]

/-- The low bit of a number, as a Boolean and as a number. -/
theorem toNat_decide_mod_two (n : Nat) : (decide (n % 2 = 1)).toNat = n % 2 := by
  obtain h | h := Nat.mod_two_eq_zero_or_one n <;> simp [h]

theorem checksum_toNat (bits : List Bool) : (checksum bits).toNat = popcount bits % 2 :=
  toNat_decide_mod_two (popcount bits)

/-- The checksum of a code sequence, from the codes (R141). -/
theorem checksum_qbits (codes : List SymCode) : (checksum (qbits codes)).toNat = (codes.map ones).sum % 2 := by
  rw [checksum_toNat, popcount_qbits]

/-- The 1 bits of consecutive slots are those of the list the slots hold. -/
theorem onesFrom_eq_sum (slot : Nat → SymCode) (first : Nat) (codes : List SymCode)
    (h : ∀ k, k < codes.length → slot (first + k) = codes.getD k 0) :
    onesFrom slot first codes.length = (codes.map ones).sum := by
  have hslots : (List.range codes.length).map (fun k => ones (slot (first + k))) = codes.map ones :=
    List.ext_getElem (by simp) fun k hk _ => by
      have hlt : k < codes.length := by simpa using hk
      simp [h k hlt, hlt]
  rw [onesFrom, hslots]

@[simp] theorem bpcTimeSlots_length (ts : TimeSample) : (bpcTimeSlots ts).length = 9 := by simp [bpcTimeSlots]

@[simp] theorem bpcDateSlots_length (ts : TimeSample) : (bpcDateSlots ts).length = 8 := by simp [bpcDateSlots]

/-- Indices 0..8 hold the time block. -/
theorem bpcSlots_time (ts : TimeSample) (k : Nat) (hk : k < 9) : (bpcSlots ts).getD k 0 = (bpcTimeSlots ts).getD k 0 := by
  simp [bpcSlots, List.getElem?_append_left, hk]

/-- Index 9 holds p3. -/
theorem bpcSlots_p3 (ts : TimeSample) : (bpcSlots ts).getD 9 0 = bpcP3 (bpcTimeSlots ts) ts.hour := by
  simp [bpcSlots]

/-- Indices 10..17 hold the date block. -/
theorem bpcSlots_date (ts : TimeSample) (k : Nat) (hk : k < 8) :
    (bpcSlots ts).getD (10 + k) 0 = (bpcDateSlots ts).getD k 0 := by
  have hfront : (bpcTimeSlots ts ++ [bpcP3 (bpcTimeSlots ts) ts.hour]).length = 10 := by simp
  rw [bpcSlots, List.getD_append _ _ _ _ (by rw [List.length_append, hfront, bpcDateSlots_length]; omega),
    List.getD_append_right _ _ _ _ (by omega), hfront, Nat.add_sub_cancel_left]

/-- Index 18 holds p4. -/
theorem bpcSlots_p4 (ts : TimeSample) : (bpcSlots ts).getD 18 0 = bpcP4 (bpcDateSlots ts) := by
  simp [bpcSlots]

/-- Bit 0 of p3 is the checksum of the time block, whatever the PM flag (R229). -/
theorem bpcP3_mod_two (codes : List SymCode) (hour : Nat) :
    (bpcP3 codes hour).toNat % 2 = (codes.map ones).sum % 2 := by
  have hbit := checksum_toNat (qbits codes)
  rw [bpcP3, ← checksum_qbits, BitVec.toNat_ofNat]
  omega

/-- p4 is the checksum of the date block (R233). -/
theorem bpcP4_toNat (codes : List SymCode) : (bpcP4 codes).toNat = (codes.map ones).sum % 2 := by
  rw [bpcP4, checksum_qbits, BitVec.toNat_ofNat]
  omega

/-- R236 for p3, in any reading of a BPC frame by index. -/
theorem bpc_p3_law {ts : TimeSample} {slot : Nat → SymCode} (h : ∀ i, slot i = (bpcSlots ts).getD i 0) :
    (slot 9).toNat % 2 = onesFrom slot 0 9 % 2 := by
  have htime := onesFrom_eq_sum slot 0 (bpcTimeSlots ts) fun k hk => by
    rw [h, Nat.zero_add, bpcSlots_time ts k (by simpa using hk)]
  rw [bpcTimeSlots_length] at htime
  rw [h, bpcSlots_p3, bpcP3_mod_two, htime]

/-- R236 for p4, in any reading of a BPC frame by index. -/
theorem bpc_p4_law {ts : TimeSample} {slot : Nat → SymCode} (h : ∀ i, slot i = (bpcSlots ts).getD i 0) :
    (slot 18).toNat = onesFrom slot 10 8 % 2 := by
  have hdate := onesFrom_eq_sum slot 10 (bpcDateSlots ts) fun k hk => by
    rw [h, bpcSlots_date ts k (by simpa using hk)]
  rw [bpcDateSlots_length] at hdate
  rw [h, bpcSlots_p4, bpcP4_toNat, hdate]

/-- p1 is 0, 1 or 2 at a BPC phase, and p2 is 0 (R221, R223, R224). -/
theorem bpcSlots_head (ts : TimeSample) (h : bpcPhase ts.second = true) :
    (bpcSlots ts).getD 0 0 ≠ 3 ∧ (bpcSlots ts).getD 1 0 = 0 := by
  have hsecond : ts.second = 0 ∨ ts.second = 20 ∨ ts.second = 40 := by
    simpa [bpcPhase, or_assoc] using h
  rw [bpcSlots_time ts 0 (by decide), bpcSlots_time ts 1 (by decide)]
  obtain hs | hs | hs := hsecond <;> simp [bpcTimeSlots, hs]

/-! ### The frame of a BUILD is legal -/

theorem freshInfo_fstd_eq_two_iff (std : Standard) : (freshInfo std).fstd = 2 ↔ std = .bpc := by
  cases std <;> decide

/-- Whatever state it starts from, a successful BUILD leaves a legal frame buffer. -/
theorem frameLegal_of_built (std : Standard) (tr : Bool) (s : State)
    (hp : std = .bpc → bpcPhase (timeSample s).second = true) :
    FrameLegal (completeOk tr (s.commitFrame (builtSlots std (timeSample s)) std)) := by
  have hinfo := completeOk_commitFrame_frameInfo std tr s (timeSample s)
  have hslot : ∀ i, slotOf (completeOk tr (s.commitFrame (builtSlots std (timeSample s)) std)) i =
      (builtSlots std (timeSample s)).getD i 0 := slotOf_commitFrame (by simp [frameLen_le]) tr std s
  constructor <;> rw [hinfo]
  case tail_zero =>
    intro i hi
    rw [freshInfo_len] at hi
    rw [hslot, List.getD_eq_default _ _ (by simpa using hi)]
  case markers =>
    intro _ hstd i hi
    rw [hslot]
    exact builtSlots_markerFrame (fun h => hstd ((freshInfo_fstd_eq_two_iff std).2 h)) _ i hi
  case bpc_head =>
    intro hstd
    obtain rfl := (freshInfo_fstd_eq_two_iff std).1 hstd
    rw [hslot, hslot]
    exact bpcSlots_head _ (hp rfl)
  case bpc_p3 =>
    intro hstd
    obtain rfl := (freshInfo_fstd_eq_two_iff std).1 hstd
    exact bpc_p3_law hslot
  case bpc_p4 =>
    intro hstd
    obtain rfl := (freshInfo_fstd_eq_two_iff std).1 hstd
    exact bpc_p4_law hslot

end Sys2Proof.StateFamily
end

section
/-! PROOFS, family 10_state: STATUS, SYM_OUT and PULSE, and the legal states (R24, R32, R33, R270, R330, R331). -/

namespace Sys2Proof.StateFamily

open Sys2Proof.Machine Sys2Proof.Safety

/-! ### STATUS -/

theorem statusLegal_of_eq {s t : State} (h : StatusLegal s) (e : t.status = s.status) : StatusLegal t :=
  ⟨e ▸ h.err_le, e ▸ h.trunc_clear, e ▸ h.index_of_overflow⟩

/-- STATUS after success is legal (R330). -/
theorem statusLegal_of_success {t : State} {tr : Bool} (e : t.status = successStatus tr) : StatusLegal t := by
  constructor <;> simp [e, successStatus]

/-- STATUS after an error is legal where ERR_INDEX is (R331). -/
theorem statusLegal_of_error {t : State} {e : CmdError} (h : t.status = errorStatus e)
    (hindex : BitVec.ofNat 8 e.index ≠ 0 → e.code = .encodingOverflow ∧ BitVec.ofNat 8 e.index ∈ overflowIndices) :
    StatusLegal t where
  err_le := by
    rw [h]
    cases hc : e.code <;> simp [errorStatus, hc, ErrCode.code]
  trunc_clear _ := by rw [h, errorStatus]
  index_of_overflow hne := by
    rw [h] at hne ⊢
    obtain ⟨hcode, hmem⟩ := hindex hne
    exact ⟨by rw [errorStatus, hcode, ErrCode.code], hmem⟩

/-- The indices an overflow of a BUILD reports are those R322 names. -/
theorem ofNat_mem_overflowIndices : ∀ idx ∈ fieldIndices, BitVec.ofNat 8 idx ∈ overflowIndices := by decide

/-- STATUS after a failed BUILD is legal. -/
theorem statusLegal_of_buildError {t : State} {e : CmdError} (h : t.status = errorStatus e) (he : isBuildError e) :
    StatusLegal t := by
  refine statusLegal_of_error h fun hne => ?_
  obtain rfl | ⟨idx, hidx, rfl⟩ := he
  · exact absurd rfl hne
  · exact ⟨rfl, ofNat_mem_overflowIndices idx hidx⟩

/-- Every command but NOP leaves a legal STATUS, whatever it held before. -/
theorem effect_statusLegal {i : Instr} {s t : State} (h : Effect i s t) (hi : i ≠ .nop) : StatusLegal t := by
  cases h with
  | nop => exact absurd rfl hi
  | softReset => exact statusLegal_of_success (tr := false) rfl
  | failed e _ _ _ _ _ _ he => exact statusLegal_of_error rfl fun hne => absurd (by rw [he]; rfl) hne
  | result => exact statusLegal_of_success rfl
  | buildFailed e _ _ he => exact statusLegal_of_buildError rfl he
  | built => exact statusLegal_of_success rfl
  | mapped => exact statusLegal_of_success rfl
  | popped => exact statusLegal_of_success (tr := false) rfl
  | rewound => exact statusLegal_of_success rfl

/-- Settles O48: STATUS after each command's effect, case by case. -/
theorem everyCommandLeavesLegalStatus : Obligations.EveryCommandLeavesLegalStatus :=
  fun _ _ _ hi h => effect_statusLegal (exec_effect h) hi

/-! ### SYM_OUT and PULSE -/

/-- PULSE holds 0 or the profile of a symbol of a standard (R33). -/
def PulseOfTable (p : PulseReg) : Prop :=
  p.toWord = 0 ∨ ∃ std code, pulseTable std code ≠ 0 ∧ p.toWord = pulseTable std code

/-- A standard's profiles are the rows of R261 to R263. -/
theorem pulse_eq_table (std : Standard) (c : SymCode) :
    ∀ p, pulse std c = some p → pulseTable std.code c ≠ 0 ∧ p.toWord = pulseTable std.code c := by
  revert c
  cases std <;> decide +revert

theorem pulseOfTable_of_pulse {std : Standard} {c : SymCode} {p : PulseReg} (h : pulse std c = some p) :
    PulseOfTable p := .inr ⟨std.code, c, pulse_eq_table std c p h⟩

theorem pulseOfTable_reset : PulseOfTable Regs.reset.pulse := .inl (by decide)

/-- SYM_OUT at 0 and a PULSE of the table are legal, whatever frame is held. -/
theorem outputLegal_of_zero {t : State} (hsym : t.symOut = Regs.reset.symOut) (hpulse : PulseOfTable t.pulse) :
    OutputLegal t := ⟨.inl hsym, hpulse⟩

/-- SYM_OUT and PULSE stay legal where the frame, its description and SYM_OUT are kept and PULSE is of the table. -/
theorem outputLegal_of_eq {s t : State} (h : OutputLegal s) (hsym : t.symOut = s.symOut)
    (hvalid : t.frameInfo.valid = s.frameInfo.valid) (hfstd : t.frameInfo.fstd = s.frameInfo.fstd)
    (hlen : t.frameInfo.len = s.frameInfo.len) (hframe : t.frame = s.frame) (hpulse : PulseOfTable t.pulse) :
    OutputLegal t where
  sym_of_frame := by
    have hslot : slotOf t = slotOf s := funext fun i => by rw [slotOf, slotOf, hframe]
    rw [hsym, hvalid, hfstd, hlen, hslot]
    exact h.sym_of_frame
  pulse_of_table := hpulse

/-! ### The held frame -/

/-- The frame buffer stays legal where it and its description are kept; RD_PTR is free. -/
theorem frameLegal_of_eq {s t : State} (h : FrameLegal s) (hvalid : t.frameInfo.valid = s.frameInfo.valid)
    (hfstd : t.frameInfo.fstd = s.frameInfo.fstd) (hlen : t.frameInfo.len = s.frameInfo.len)
    (hframe : t.frame = s.frame) : FrameLegal t := by
  have hslot : slotOf t = slotOf s := funext fun i => by rw [slotOf, slotOf, hframe]
  constructor <;> simp only [hvalid, hfstd, hlen, hslot]
  case tail_zero => exact h.tail_zero
  case markers => exact h.markers
  case bpc_head => exact h.bpc_head
  case bpc_p3 => exact h.bpc_p3
  case bpc_p4 => exact h.bpc_p4

/-- A cleared frame buffer is legal with no frame held. -/
theorem frameLegal_of_zero {t : State} (hinfo : t.frameInfo = Regs.reset.frameInfo)
    (hframe : t.frame = Regs.reset.frame) : FrameLegal t := by
  have hslot : ∀ i, slotOf t i = 0 := fun i => by simp [slotOf, hframe, Regs.reset]
  constructor <;> simp [hinfo, hslot, Regs.reset]

/-- A code names its own standard (R101). -/
@[simp] theorem ofCode_code (std : Standard) : Standard.ofCode std.code = some std := by cases std <;> rfl

/-- A held frame is one of a standard (R31). -/
theorem standard_of_valid {s : State} (h : FrameInfoLegal s) (hv : s.frameInfo.valid = true) :
    ∃ std : Standard, s.frameInfo.fstd = std.code := by
  obtain ⟨-, hstd | hstd⟩ | ⟨-, hstd⟩ := h.len_of_valid hv
  · exact ⟨.jjy, hstd⟩
  · exact ⟨.wwvb, hstd⟩
  · exact ⟨.bpc, hstd⟩

/-- Zero, One and Marker are the symbols of a frame with Markers. -/
theorem slotOf_lt_three {s : State} (h : FrameLegal s) (hv : s.frameInfo.valid = true) (hstd : s.frameInfo.fstd ≠ 2)
    {i : Nat} (hi : i < 60) : (slotOf s i).toNat < 3 := by
  have hslot := h.markers hv hstd i hi
  split at hslot
  · simp [hslot]
  · obtain h0 | h1 := hslot
    · simp [h0]
    · simp [h1]

/-- Every entry of a held frame is a symbol of its standard (R100). -/
theorem slotOf_lt_symbolCount {s : State} (h : FrameLegal s) (hv : s.frameInfo.valid = true) {std : Standard}
    (hstd : s.frameInfo.fstd = std.code) {i : Nat} (hi : i < 60) : (slotOf s i).toNat < std.symbolCount := by
  cases std with
  | jjy => exact slotOf_lt_three h hv (by rw [hstd]; decide) hi
  | wwvb => exact slotOf_lt_three h hv (by rw [hstd]; decide) hi
  | bpc => exact (slotOf s i).isLt

/-- The symbol at RD_PTR of a legal state with one left: the frame's entry there. -/
theorem nextSymbol_eq_slotOf {s : State} (h : s.frameInfo.rdPtr.toNat < 60) :
    nextSymbol s = slotOf s s.frameInfo.rdPtr.toNat := by
  rw [nextSymbol_of_lt s h, slotOf, dif_pos h]

/-- The profile POP delivers from a legal state is one of the table, never the free value (R260, R270). -/
theorem framePulse_nextSymbol {s : State} (hi : FrameInfoLegal s) (hf : FrameLegal s) (hv : s.frameInfo.valid = true)
    (hlt : s.frameInfo.rdPtr.toNat < s.frameInfo.len.toNat) :
    ∃ std p, s.frameInfo.fstd = Standard.code std ∧ pulse std (nextSymbol s) = some p
      ∧ framePulse s (nextSymbol s) = p := by
  obtain ⟨std, hstd⟩ := standard_of_valid hi hv
  have h60 : s.frameInfo.rdPtr.toNat < 60 := Nat.lt_of_lt_of_le hlt (len_le_of_legal hi)
  have hc : (nextSymbol s).toNat < std.symbolCount := by
    rw [nextSymbol_eq_slotOf h60]
    exact slotOf_lt_symbolCount hf hv hstd h60
  obtain ⟨p, hp⟩ := pulse_of_lt std _ hc
  exact ⟨std, p, hstd, hp, framePulse_of_pulse (by rw [hstd, ofCode_code]) hp⟩

/-! ### Legal states -/

/-- A legal state stays legal when STATUS is written legally, PULSE from the table, and the frame, its description and
SYM_OUT are kept. -/
theorem legal_of_pulse {s t : State} (h : Legal s) (hinfo : t.frameInfo = s.frameInfo) (hframe : t.frame = s.frame)
    (hsym : t.symOut = s.symOut) (hstatus : StatusLegal t) (hpulse : PulseOfTable t.pulse) : Legal t where
  info := frameInfoLegal_of_eq h.info hinfo
  frame := frameLegal_of_eq h.frame (by rw [hinfo]) (by rw [hinfo]) (by rw [hinfo]) hframe
  status := hstatus
  output := outputLegal_of_eq h.output hsym (by rw [hinfo]) (by rw [hinfo]) (by rw [hinfo]) hframe hpulse

theorem legal_of_sameOutputs {s t : State} (e : SameOutputs s t) (h : Legal s) : Legal t :=
  legal_of_pulse h e.frameInfo e.frame e.symOut (statusLegal_of_eq h.status e.status)
    (e.pulse ▸ h.output.pulse_of_table)

/-- No frame, SYM_OUT and PULSE 0: legal with any legal STATUS (R40, R331). -/
theorem legal_of_zero {t : State} (hinfo : t.frameInfo = Regs.reset.frameInfo) (hframe : t.frame = Regs.reset.frame)
    (hsym : t.symOut = Regs.reset.symOut) (hpulse : t.pulse = Regs.reset.pulse) (hstatus : StatusLegal t) :
    Legal t where
  info := frameInfoLegal_of_zero hinfo
  frame := frameLegal_of_zero hinfo hframe
  status := hstatus
  output := outputLegal_of_zero hsym (hpulse ▸ pulseOfTable_reset)

/-- A failed BUILD leaves a legal state, whatever state it starts from. -/
theorem legal_of_buildFailed {e : CmdError} (he : isBuildError e) (s : State) :
    Legal (s.setStatus (errorStatus e)).clearFrame :=
  legal_of_zero rfl rfl rfl rfl (statusLegal_of_buildError rfl he)

/-- A successful BUILD leaves a legal state, whatever state it starts from. -/
theorem legal_of_built (std : Standard) (tr : Bool) (s : State)
    (hp : std = .bpc → bpcPhase (timeSample s).second = true) :
    Legal (completeOk tr (s.commitFrame (builtSlots std (timeSample s)) std)) where
  info := frameInfoLegal_of_fresh (completeOk_commitFrame_frameInfo std tr s _)
  frame := frameLegal_of_built std tr s hp
  status := statusLegal_of_success rfl
  output := outputLegal_of_zero rfl pulseOfTable_reset

/-- A delivery leaves a legal state: SYM_OUT is the frame's entry at the old RD_PTR and PULSE its profile (R270). -/
theorem legal_of_popped {s : State} (h : Legal s) (hleft : frameSpent s = false) : Legal (deliverSymbol s) := by
  obtain ⟨hv, hlt⟩ := (frameSpent_eq_false_iff s).1 hleft
  obtain ⟨std, p, -, hp, hpulse⟩ := framePulse_nextSymbol h.info h.frame hv hlt
  have heffect : Effect .pop s (deliverSymbol s) := .popped s hleft
  refine ⟨effect_keeps_frameInfoLegal heffect h.info, frameLegal_of_eq h.frame rfl rfl rfl rfl,
    effect_statusLegal heffect (by decide), .inr ⟨hv, rfl, hlt, ?_⟩, ?_⟩
  · have h60 : s.frameInfo.rdPtr.toNat < 60 := Nat.lt_of_lt_of_le hlt (len_le_of_legal h.info)
    exact nextSymbol_eq_slotOf h60
  · have hout : (deliverSymbol s).pulse = p := hpulse
    rw [hout]
    exact pulseOfTable_of_pulse hp

/-- Every command's effect keeps a legal state legal. -/
theorem effect_keeps_legal {i : Instr} {s t : State} (h : Effect i s t) (hs : Legal s) : Legal t := by
  have hstatus : i ≠ .nop → StatusLegal t := effect_statusLegal h
  cases h with
  | nop => exact hs
  | softReset => exact legal_of_zero rfl rfl rfl rfl (hstatus (by decide))
  | failed _ _ _ hn => exact legal_of_pulse hs rfl rfl rfl (hstatus hn) hs.output.pulse_of_table
  | result => exact legal_of_pulse hs rfl rfl rfl (statusLegal_of_success rfl) hs.output.pulse_of_table
  | buildFailed _ _ _ he => exact legal_of_buildFailed he s
  | built std tr _ hp => exact legal_of_built std tr s hp
  | mapped _ _ _ _ hp => exact legal_of_pulse hs rfl rfl rfl (statusLegal_of_success rfl) (pulseOfTable_of_pulse hp)
  | popped _ hleft => exact legal_of_popped hs hleft
  | rewound =>
    exact ⟨effect_keeps_frameInfoLegal (.rewound s) hs.info, frameLegal_of_eq hs.frame rfl rfl rfl rfl,
      hstatus (by decide), outputLegal_of_eq hs.output rfl rfl rfl rfl rfl hs.output.pulse_of_table⟩

/-- Settles O52: every command's effect keeps a legal state legal, and so does every step. -/
theorem stepKeepsLegal : Obligations.StepKeepsLegal :=
  fun _ _ hs h => step_keeps (P := Legal) legal_of_sameOutputs effect_keeps_legal hs h

/-- Settles O53: all registers are 0, so no frame is held and STATUS reports success. -/
theorem resetIsLegal : Obligations.ResetIsLegal :=
  legal_of_zero rfl rfl rfl rfl (statusLegal_of_success (tr := false) rfl)

end Sys2Proof.StateFamily
end

section
/-! PROOFS, family 10_state: what the registers read as, and what writes and commands leave of them
(R21 to R34, R36 to R40). -/

namespace Sys2Proof.StateFamily

open Sys2Proof.Machine Sys2Proof.Safety

/-! ### Register reads -/

/-- Bits joined are numbers added. -/
theorem toNat_append_eq_add {m n : Nat} (x : BitVec m) (y : BitVec n) :
    (x ++ y).toNat = x.toNat * 2 ^ n + y.toNat := by
  rw [BitVec.toNat_append, ← Nat.shiftLeft_add_eq_or_of_lt y.isLt, Nat.shiftLeft_eq]

/-- A read gives the number of the field tables (R22 to R34). -/
theorem readReg_toNat (r : Reg) (s : State) : (readReg r s).toNat = registerValue s r := by
  cases r with
  | cmd => rfl
  | argN | argW | result | tsYday | frameSym =>
    simp only [readReg, registerValue, BitVec.toNat_setWidth]
    omega
  | config | status | tsDate | tsTime | frameInfo | symOut | pulse =>
    simp only [readReg, registerValue, configWord, StatusReg.toWord, TsDateReg.toWord, TsTimeReg.toWord,
      FrameInfoReg.toWord, SymOutReg.toWord, PulseReg.toWord, toNat_append_eq_add, BitVec.toNat_ofBool,
      BitVec.toNat_ofNat]
    omega

theorem readReg_eq (r : Reg) (s : State) : readReg r s = BitVec.ofNat 32 (registerValue s r) := by
  rw [← readReg_toNat, BitVec.ofNat_toNat, BitVec.setWidth_eq]

/-- A 32-bit access at a register's offset reaches that register (R21). -/
theorem accessReg_regOffset (r : Reg) : accessReg (BitVec.ofNat 9 (regOffset r)) 4 = some r := by
  cases r with
  | frameSym i => revert i; decide
  | _ => rfl

/-- Settles O14: the access reaches the register, which reads as its field table says. -/
theorem readsReturnFieldTables : Obligations.ReadsReturnFieldTables := by
  intro s rest r
  have hread : memRead (BitVec.ofNat 9 (regOffset r)) 4 { s with pending := rest } =
      .data (BitVec.ofNat 32 (registerValue s r)) := by
    rw [memRead, accessReg_regOffset]
    exact congrArg _ (readReg_eq r _)
  exact congrArg (fun a => Host.Outcome.next (State.respond a { s with pending := rest })) hread

/-- Settles O10: every field is 0 after reset, and every entry of the frame buffer. -/
theorem resetStateIsZero : Obligations.ResetStateIsZero := by
  intro r
  cases r with
  | frameSym i => simp [registerValue, State.reset, Regs.reset]
  | _ => rfl

/-! ### Host writes -/

/-- A write to a read-only register, or to CMD, stores nothing (R22). -/
theorem storeReg_of_readOnly {r : Reg} (h : storedBits r = 0) (v : Word) (s : State) : storeReg r v s = s := by
  cases r with
  | config | argN | argW | tsDate | tsTime | tsYday => exact absurd h (by decide)
  | _ => rfl

/-- A write changes no other register. -/
theorem registerValue_storeReg_of_ne {r r' : Reg} (h : r' ≠ r) (v : Word) (s : State) :
    registerValue (storeReg r v s) r' = registerValue s r' := by
  cases r with
  | config | argN | argW | tsDate | tsTime | tsYday => cases r' <;> simp_all [storeReg, registerValue]
  | _ => rfl

/-- A read/write register reads as the bits of its fields that were written (R26, R27, R28). -/
theorem registerValue_storeReg_same {r : Reg} (h : storedBits r ≠ 0) (v : Word) (s : State) :
    registerValue (storeReg r v s) r = (v &&& storedBits r).toNat := by
  have hmask (n : Nat) : v.toNat &&& (2 ^ n - 1) = v.toNat % 2 ^ n := Nat.and_two_pow_sub_one_eq_mod _ _
  rw [BitVec.toNat_and]
  cases r with
  | config =>
    rw [show (storedBits .config).toNat = 2 ^ 1 - 1 from rfl, hmask]
    simpa [registerValue, storeReg, BitVec.getLsbD] using toNat_decide_mod_two v.toNat
  | argN => exact (BitVec.toNat_setWidth ..).trans (hmask 16).symm
  | argW => exact (BitVec.toNat_setWidth ..).trans (hmask 5).symm
  | tsYday => exact (BitVec.toNat_setWidth ..).trans (hmask 16).symm
  | tsDate =>
    rw [show (storedBits .tsDate).toNat = 2 ^ 32 - 1 from rfl, hmask]
    simp only [registerValue, storeReg, TsDateReg.ofWord, BitVec.extractLsb'_toNat, Nat.shiftRight_eq_div_pow]
    omega
  | tsTime =>
    rw [show (storedBits .tsTime).toNat = 2 ^ 32 - 1 from rfl, hmask]
    simp only [registerValue, storeReg, TsTimeReg.ofWord, BitVec.extractLsb'_toNat, Nat.shiftRight_eq_div_pow]
    omega
  | _ => exact absurd rfl h

/-- A 32-bit write at the offset of a register other than CMD stores into it and is answered OK (R64). -/
theorem memWrite_regOffset {r : Reg} (h : r ≠ .cmd) (v : Word) (s : State) :
    memWrite (BitVec.ofNat 9 (regOffset r)) 4 v s = .next ((storeReg r v s).respond .ok) := by
  rw [memWrite, accessReg_regOffset]
  cases r with
  | cmd => exact absurd rfl h
  | _ => rfl

theorem storeReg_pending (r : Reg) (v : Word) (s : State) : (storeReg r v s).pending = s.pending := by
  cases r <;> rfl

/-- What the host has waiting and what it was answered is in no register. -/
theorem registerValue_respond (a : BusResponse) (s : State) (r : Reg) :
    registerValue (s.respond a) r = registerValue s r := by cases r <;> rfl

theorem registerValue_pending (events : List HostEvent) (s : State) (r : Reg) :
    registerValue { s with pending := events } r = registerValue s r := by cases r <;> rfl

/-- Settles O15: the write stores the bits of the register's fields and nothing else. -/
theorem writesStoreFieldsOnly : Obligations.WritesStoreFieldsOnly := by
  intro s rest r v hr
  refine ⟨_, memWrite_regOffset hr v { s with pending := rest }, storeReg_pending _ _ _, rfl, fun r' => ?_⟩
  rw [registerValue_respond]
  by_cases hstored : storedBits r = 0
  · rw [storeReg_of_readOnly hstored, if_neg (fun h => h.2 hstored), registerValue_pending]
  by_cases hsame : r' = r
  · rw [if_pos ⟨hsame, hstored⟩, hsame, registerValue_storeReg_same hstored]
  · rw [if_neg (fun h => hsame h.1), registerValue_storeReg_of_ne hsame, registerValue_pending]

/-! ### What each update leaves of the registers -/

theorem registerValue_setStatus {r : Reg} (h : r ≠ .status) (st : StatusReg) (s : State) :
    registerValue (s.setStatus st) r = registerValue s r := by
  cases r with
  | status => exact absurd rfl h
  | _ => rfl

theorem registerValue_setResult {r : Reg} (h : r ≠ .result) (v : BitVec 16) (s : State) :
    registerValue (s.setResult v) r = registerValue s r := by
  cases r with
  | result => exact absurd rfl h
  | _ => rfl

theorem registerValue_setPulse {r : Reg} (h : r ≠ .pulse) (p : PulseReg) (s : State) :
    registerValue (s.setPulse p) r = registerValue s r := by
  cases r with
  | pulse => exact absurd rfl h
  | _ => rfl

theorem registerValue_setSymOut {r : Reg} (h : r ≠ .symOut) (o : SymOutReg) (s : State) :
    registerValue (s.setSymOut o) r = registerValue s r := by
  cases r with
  | symOut => exact absurd rfl h
  | _ => rfl

theorem registerValue_setRdPtr {r : Reg} (h : r ≠ .frameInfo) (p : BitVec 8) (s : State) :
    registerValue (s.setRdPtr p) r = registerValue s r := by
  cases r with
  | frameInfo => exact absurd rfl h
  | _ => rfl

/-- The registers that describe or hold a frame, which a BUILD writes whether it succeeds or fails (R190, R331). -/
def ofFrame : Reg → Bool
  | .frameInfo | .symOut | .pulse | .frameSym _ => true
  | _ => false

theorem registerValue_clearFrame {r : Reg} (h : ofFrame r = false) (s : State) :
    registerValue s.clearFrame r = registerValue s r := by
  cases r with
  | frameInfo | symOut | pulse | frameSym => exact absurd h (by simp [ofFrame])
  | _ => rfl

theorem registerValue_commitFrame {r : Reg} (h : ofFrame r = false) (f : List SymCode) (std : Standard) (s : State) :
    registerValue (s.commitFrame f std) r = registerValue s r := by
  cases r with
  | frameInfo | symOut | pulse | frameSym => exact absurd h (by simp [ofFrame])
  | _ => rfl

/-! ### What a command may not write -/

/-- Every command but NOP writes STATUS. -/
theorem ne_status_of_mayWrite {i : Instr} {r : Reg} (hi : i ≠ .nop) (h : mayWrite i r = false) : r ≠ .status := by
  rintro rfl
  cases i with
  | nop => exact hi rfl
  | _ => exact absurd h (by decide)

theorem ne_result_of_mayWrite {i : Instr} {r : Reg} (hi : isPrimitive i = true) (h : mayWrite i r = false) :
    r ≠ .result := by
  rintro rfl
  cases i with
  | bcd | quat | parity | checksum => exact absurd h (by decide)
  | _ => exact absurd hi (by decide)

theorem ofFrame_of_mayWrite {i : Instr} {r : Reg} (hi : isBuild i = true) (h : mayWrite i r = false) :
    ofFrame r = false := by
  cases i with
  | buildJjy | buildWwvb | buildBpc => cases r <;> simp_all [mayWrite, ofFrame, regOffset]
  | _ => exact absurd hi (by decide)

theorem ne_pulse_of_mayWrite {std : Standard} {r : Reg} (h : mayWrite (mapOf std) r = false) : r ≠ .pulse := by
  rintro rfl
  cases std <;> exact absurd h (by decide)

@[simp] theorem isBuild_buildOf (std : Standard) : isBuild (buildOf std) = true := by cases std <;> rfl

theorem ne_nop_of_isBuild {i : Instr} (h : isBuild i = true) : i ≠ .nop := by
  rintro rfl
  exact absurd h (by decide)

theorem ne_nop_of_isPrimitive {i : Instr} (h : isPrimitive i = true) : i ≠ .nop := by
  rintro rfl
  exact absurd h (by decide)

theorem mapOf_ne_nop (std : Standard) : mapOf std ≠ .nop := by cases std <;> decide

/-- A command's effect leaves every register the command may not write. -/
theorem effect_keeps_registers {i : Instr} {s t : State} (h : Effect i s t) {r : Reg} (hr : mayWrite i r = false) :
    registerValue t r = registerValue s r := by
  have hstatus : i ≠ .nop → r ≠ .status := fun hi => ne_status_of_mayWrite hi hr
  cases h with
  | nop => rfl
  | softReset => exact absurd hr (by simp [mayWrite])
  | failed _ _ _ hn => exact registerValue_setStatus (hstatus hn) _ _
  | result _ _ _ hi =>
    exact (registerValue_setStatus (hstatus (ne_nop_of_isPrimitive hi)) _ _).trans
      (registerValue_setResult (ne_result_of_mayWrite hi hr) _ _)
  | buildFailed _ _ hi =>
    exact (registerValue_clearFrame (ofFrame_of_mayWrite hi hr) _).trans
      (registerValue_setStatus (hstatus (ne_nop_of_isBuild hi)) _ _)
  | built std =>
    have hi := isBuild_buildOf std
    exact (registerValue_setStatus (hstatus (ne_nop_of_isBuild hi)) _ _).trans
      (registerValue_commitFrame (ofFrame_of_mayWrite hi hr) _ _ _)
  | mapped std =>
    exact (registerValue_setStatus (hstatus (mapOf_ne_nop std)) _ _).trans
      (registerValue_setPulse (ne_pulse_of_mayWrite hr) _ _)
  | popped =>
    simp only [mayWrite, Bool.or_eq_false_iff, beq_eq_false_iff_ne] at hr
    obtain ⟨⟨⟨hst, hinfo⟩, hsym⟩, hpulse⟩ := hr
    rw [deliverSymbol, completeOk, registerValue_setStatus hst, registerValue_setRdPtr hinfo,
      registerValue_setPulse hpulse, registerValue_setSymOut hsym]
  | rewound =>
    simp only [mayWrite, Bool.or_eq_false_iff, beq_eq_false_iff_ne] at hr
    obtain ⟨hst, hinfo⟩ := hr
    rw [completeOk, registerValue_setStatus hst, registerValue_setRdPtr hinfo]

/-- Settles O47: every command completes, and its effect says what it leaves. -/
theorem commandsWriteOnlyTheirRegisters : Obligations.CommandsWriteOnlyTheirRegisters := by
  intro i s
  obtain ⟨t, h⟩ := exec_next i s
  obtain ⟨hpending, hresponse⟩ := exec_host h
  exact ⟨t, h, hpending, hresponse, fun r hr => effect_keeps_registers (exec_effect h) hr⟩

end Sys2Proof.StateFamily
end

section
/-! PROOFS, family 10_state: RD_PTR (R36) and the overflow policy of a BUILD (R39, R131, R136). -/

namespace Sys2Proof.StateFamily

open Sys2Proof.Machine Sys2Proof.Safety

/-! ### RD_PTR -/

theorem errorStatus_err_ne_zero (e : CmdError) : (errorStatus e).err ≠ 0 := by
  cases hc : e.code <;> simp [errorStatus, hc, ErrCode.code]

/-- BUILD, REWIND and SOFT_RESET zero RD_PTR. -/
theorem effect_rdPtr_zero {i : Instr} {s t : State} (h : Effect i s t)
    (hi : isBuild i = true ∨ i = .rewind ∨ i = .softReset) : t.frameInfo.rdPtr = 0 := by
  cases h with
  | softReset | buildFailed | built | rewound => rfl
  | failed _ _ hb _ hr hw => simp [hb, hr, hw] at hi
  | result _ _ _ hp => cases i <;> simp [isBuild, isPrimitive] at hi hp
  | mapped std => cases std <;> simp [mapOf, isBuild] at hi
  | nop | popped => simp [isBuild] at hi

/-- A POP that succeeds delivered a symbol, and one that fails wrote STATUS alone. -/
theorem effect_pop_cases {i : Instr} {s t : State} (h : Effect i s t) (hi : i = .pop) :
    (frameSpent s = false ∧ t = deliverSymbol s) ∨ ∃ e, t = s.setStatus (errorStatus e) := by
  cases h with
  | popped _ hleft => exact .inl ⟨hleft, rfl⟩
  | failed e => exact .inr ⟨e, rfl⟩
  | result _ _ _ hp => exact absurd hp (by rw [hi]; decide)
  | buildFailed _ _ hb => exact absurd hb (by rw [hi]; decide)
  | built std => cases std <;> exact nomatch hi
  | mapped std => cases std <;> exact nomatch hi
  | nop | softReset | rewound => exact nomatch hi

/-- The commands that neither build, rewind, reset nor pop keep RD_PTR. -/
theorem effect_rdPtr_kept {i : Instr} {s t : State} (h : Effect i s t) (hbuild : isBuild i = false)
    (hrewind : i ≠ .rewind) (hreset : i ≠ .softReset) (hpop : i ≠ .pop) :
    t.frameInfo.rdPtr = s.frameInfo.rdPtr := by
  cases h with
  | nop | failed | result | mapped => rfl
  | softReset => exact absurd rfl hreset
  | rewound => exact absurd rfl hrewind
  | popped => exact absurd rfl hpop
  | buildFailed _ _ hb => exact absurd hb (by simp [hbuild])
  | built std => simp at hbuild

/-- Settles O50: RD_PTR after each command's effect, by the kind of command. -/
theorem rdPtrAdvancesByPopOnly : Obligations.RdPtrAdvancesByPopOnly := by
  intro i s t h
  have heffect := exec_effect h
  refine ⟨effect_rdPtr_zero heffect, fun hi hok => ?_, fun hi herr => ?_, effect_rdPtr_kept heffect⟩
  · obtain ⟨hleft, rfl⟩ | ⟨e, rfl⟩ := effect_pop_cases heffect hi
    · exact rdPtr_succ_toNat ((frameSpent_eq_false_iff s).1 hleft).2
    · exact absurd hok (errorStatus_err_ne_zero e)
  · obtain ⟨-, rfl⟩ | ⟨e, rfl⟩ := effect_pop_cases heffect hi
    · exact absurd rfl herr
    · rfl

/-! ### The overflow policy -/

/-- A state with the overflow policy set. -/
def withPolicy (truncEn : Bool) (s : State) : State := { s with truncEn := truncEn }

/-- A BUILD's frame, by policy: what Fail builds Truncate builds too, and Fail's only error is an overflow. -/
structure OverflowOnly (built : Bool → Except CmdError (Fitted SymCode)) : Prop where
  ok_true : ∀ f, built false = .ok f → built true = .ok f
  error_false : ∀ e, built false = .error e → ∃ idx, e = overflowAt idx

/-- R131's policy read off a closed form: an overflow that Fail meets is skipped under Truncate. -/
theorem overflowOnly_ite {built next : Bool → Except CmdError (Fitted SymCode)} {n bound idx : Nat}
    (h : ∀ b, built b = if b = false ∧ bound ≤ n then .error (overflowAt idx) else next b) (hnext : OverflowOnly next) :
    OverflowOnly built := by
  constructor
  · intro f hf
    rw [h] at hf ⊢
    by_cases ho : bound ≤ n
    · simp [ho] at hf
    · simp only [ho, and_false, if_false] at hf ⊢
      exact hnext.ok_true f hf
  · intro e he
    rw [h] at he
    by_cases ho : bound ≤ n
    · exact ⟨idx, by simpa [ho] using he.symm⟩
    · simp only [ho, and_false, if_false] at he
      exact hnext.error_false e he

/-- A frame that no policy enters. -/
theorem overflowOnly_ok (f : Fitted SymCode) : OverflowOnly fun _ => .ok f := ⟨fun _ h => h, fun _ h => nomatch h⟩

theorem skeleton_overflowOnly (ts : TimeSample) : OverflowOnly (skeleton · ts) :=
  overflowOnly_ite (skeleton_eq · ts)
    (overflowOnly_ite (fun _ => rfl) (overflowOnly_ite (fun _ => rfl) (overflowOnly_ok _)))

theorem bpcFrame_overflowOnly (ts : TimeSample) : OverflowOnly (bpcFrame · ts) :=
  overflowOnly_ite (bpcFrame_eq · ts)
    (overflowOnly_ite (fun _ => rfl) (overflowOnly_ite (fun _ => rfl) (overflowOnly_ite (fun _ => rfl)
      (overflowOnly_ite (fun _ => rfl) (overflowOnly_ite (fun _ => rfl) (overflowOnly_ok _))))))

/-- The WWVB substitution follows the skeleton, so it overflows where that does (R195). -/
theorem wwvbFrame_overflowOnly (ts : TimeSample) : OverflowOnly (wwvbFrame · ts) := by
  have hskeleton := skeleton_overflowOnly ts
  constructor
  · intro f hf
    cases hs : skeleton false ts with
    | error e => simp [wwvbFrame, hs] at hf
    | ok g => simpa [wwvbFrame, hs, hskeleton.ok_true g hs] using hf
  · intro e he
    cases hs : skeleton false ts with
    | error e' =>
      obtain rfl : e' = e := by simpa [wwvbFrame, hs] using he
      exact hskeleton.error_false _ hs
    | ok g => simp [wwvbFrame, hs] at he

/-- A BUILD that Fail completes without an overflow does the same under Truncate. -/
theorem completeBuild_withPolicy {built : Bool → Except CmdError (Fitted SymCode)} (h : OverflowOnly built)
    (std : Standard) (s : State) (herr : (completeBuild std (built false) (withPolicy false s)).status.err ≠ 2) :
    completeBuild std (built true) (withPolicy true s) =
      withPolicy true (completeBuild std (built false) (withPolicy false s)) := by
  cases hb : built false with
  | ok f => rw [h.ok_true f hb]; rfl
  | error e =>
    obtain ⟨idx, rfl⟩ := h.error_false e hb
    exact absurd rfl (hb ▸ herr)

/-! ### The three BUILD commands as one -/

/-- The phase a standard's BUILD requires (R171, R221). -/
def phaseOf : Standard → TimeSample → Bool
  | .jjy, ts | .wwvb, ts => ts.second == 0
  | .bpc, ts => bpcPhase ts.second

/-- The frame builder of a standard. -/
def frameOf : Standard → Bool → TimeSample → Except CmdError (Fitted SymCode)
  | .jjy => skeleton
  | .wwvb => wwvbFrame
  | .bpc => bpcFrame

/-- Every BUILD checks its phase, then commits its frame or reports the overflow. -/
theorem exec_buildOf (std : Standard) (s : State) :
    exec (buildOf std) s = .next
      (if phaseOf std (timeSample s) then completeBuild std (frameOf std s.truncEn (timeSample s)) s
      else raiseError true clockViolation s) := by
  cases std with
  | jjy => simp [buildOf, exec, execBuildJjy, phaseOf, frameOf]
  | wwvb => simp [buildOf, exec, execBuildWwvb, phaseOf, frameOf]
  | bpc => rfl

theorem exists_buildOf {i : Instr} (h : isBuild i = true) : ∃ std, i = buildOf std := by
  cases i with
  | buildJjy => exact ⟨.jjy, rfl⟩
  | buildWwvb => exact ⟨.wwvb, rfl⟩
  | buildBpc => exact ⟨.bpc, rfl⟩
  | _ => exact absurd h (by decide)

theorem frameOf_overflowOnly (std : Standard) (ts : TimeSample) : OverflowOnly (frameOf std · ts) := by
  cases std with
  | jjy => exact skeleton_overflowOnly ts
  | wwvb => exact wwvbFrame_overflowOnly ts
  | bpc => exact bpcFrame_overflowOnly ts

/-- Settles O36: the phase check reads no policy, and the frame depends on it only where a field overflows. -/
theorem policyMattersOnOverflowOnly : Obligations.PolicyMattersOnOverflowOnly := by
  intro i s t hi h herr
  obtain ⟨std, rfl⟩ := exists_buildOf hi
  change exec _ (withPolicy false s) = _ at h
  change exec _ (withPolicy true s) = .next (withPolicy true t)
  have hsample (b : Bool) : timeSample (withPolicy b s) = timeSample s := rfl
  rw [exec_buildOf, hsample] at h ⊢
  obtain rfl := Host.Outcome.next.inj h
  by_cases hphase : phaseOf std (timeSample s) = true
  · rw [if_pos hphase] at herr
    rw [if_pos hphase, if_pos hphase]
    exact congrArg _ (completeBuild_withPolicy (frameOf_overflowOnly std _) std s herr)
  · rw [if_neg hphase, if_neg hphase]
    rfl

end Sys2Proof.StateFamily
end

section
/-! PROOFS, family 20_memory: the byte lanes of a word, the aperture, bus errors, reads, and that every step completes
(R61 to R67, R70, R90, R99, R300, R388). -/

namespace Sys2Proof.MemoryFamily

open Sys2Proof.Machine Sys2Proof.Safety Sys2Proof.StateFamily

/-! ### Every step completes -/

/-- A word written to CMD completes, whether it is a command or illegal (R96, R300). -/
theorem runCommand_next (v : Word) (s : State) : ∃ t, runCommand v s = .next t := by
  obtain ⟨i, -, hrun⟩ | ⟨_, -, hrun⟩ := runCommand_cases v s
  · rw [hrun]
    exact exec_next i s
  · exact ⟨_, hrun⟩

/-- Every write is answered: with a bus error, after its command, or after its store (R64). -/
theorem memWrite_next (off : Offset) (size : Nat) (v : Word) (s : State) : ∃ t, memWrite off size v s = .next t := by
  unfold memWrite
  split
  · exact ⟨_, rfl⟩
  · obtain ⟨t, hrun⟩ := runCommand_next v s
    rw [hrun]
    exact ⟨_, rfl⟩
  · exact ⟨_, rfl⟩

theorem serve_next (e : HostEvent) (s : State) : ∃ t, serve e s = .next t := by
  cases e with
  | read off size => exact ⟨_, rfl⟩
  | write off size v => exact memWrite_next off size v s
  | reset => exact ⟨_, rfl⟩

/-- Serving an event leaves the other events waiting. -/
theorem serve_pending {e : HostEvent} {s t : State} (h : serve e s = .next t) : t.pending = s.pending := by
  obtain ⟨a, rfl⟩ | ⟨r, v, rfl⟩ | ⟨i, u, hexec, rfl⟩ | rfl | rfl := serve_cases h
  · rfl
  · exact storeReg_pending r v s
  · exact (exec_host hexec).1
  · rfl
  · rfl

theorem step_of_idle {s : State} (h : s.pending = []) : step s = .next s := by
  rw [step, h]

theorem step_of_pending {s : State} {e : HostEvent} {rest : List HostEvent} (h : s.pending = e :: rest) :
    step s = serve e { s with pending := rest } := by
  rw [step, h]

/-- Settles O9: an idle step has nothing to serve, and serving the oldest event completes and keeps the others. -/
theorem everyStepCompletes : Obligations.EveryStepCompletes := by
  intro s
  cases hp : s.pending with
  | nil => exact ⟨s, step_of_idle hp, hp⟩
  | cons e rest =>
    obtain ⟨t, ht⟩ := serve_next e { s with pending := rest }
    exact ⟨t, (step_of_pending hp).trans ht, serve_pending ht⟩

/-! ### Bus errors and reads -/

theorem memRead_of_accessReg_none {off : Offset} {size : Nat} (h : accessReg off size = none) (s : State) :
    memRead off size s = .busError := by
  rw [memRead, h]

theorem memWrite_of_accessReg_none {off : Offset} {size : Nat} (h : accessReg off size = none) (v : Word) (s : State) :
    memWrite off size v s = .next (s.respond .busError) := by
  rw [memWrite, h]

theorem memRead_of_accessReg_some {off : Offset} {size : Nat} {r : Reg} (h : accessReg off size = some r) (s : State) :
    memRead off size s = .data (readReg r s) := by
  rw [memRead, h]

/-- What a read answers depends on the registers alone, and not on the host's side of the bus (R67). -/
theorem memRead_host (off : Offset) (size : Nat) (s : State) (events : List HostEvent) (a : BusResponse) :
    memRead off size { s with pending := events, response := a } = memRead off size s := by
  cases h : accessReg off size with
  | none => rw [memRead_of_accessReg_none h, memRead_of_accessReg_none h]
  | some r =>
    rw [memRead_of_accessReg_some h, memRead_of_accessReg_some h]
    cases r <;> rfl

/-- A step that serves a read records its answer and changes no register (R67). -/
theorem step_of_read {s : State} {rest : List HostEvent} {off : Offset} {size : Nat}
    (h : s.pending = .read off size :: rest) :
    step s = .next { s with pending := rest, response := memRead off size s } := by
  rw [step_of_pending h, serve, memRead_host]
  rfl

/-- Settles O13: such an access reaches no register (R62, R63, R64). -/
theorem busErrorChangesNothing : Obligations.BusErrorChangesNothing := by
  intro s rest off size v hbad
  have hnone : accessReg off size = none := (accessReg_eq_none_iff off size).2 hbad
  constructor
  · rw [step_of_read rfl, memRead_of_accessReg_none hnone]
  · rw [step_of_pending rfl, serve, memWrite_of_accessReg_none hnone]
    rfl

/-- Settles O16: the answer is that of the registers, which the first read leaves to the second one (R67). -/
theorem readsHaveNoSideEffect : Obligations.ReadsHaveNoSideEffect := by
  intro s rest off size
  refine ⟨memRead off size s, ?_, ?_⟩
  · rw [step_of_read rfl, memRead_host off size s (_ :: _)]
  · rw [step_of_read rfl, memRead_host off size s (_ :: _)]

/-! ### Byte lanes and addresses -/

/-- Byte lane k carries bits [8k+7:8k] (R65). -/
theorem lanesOfWord_getElem? (v : Word) {k : Nat} (h : k < 4) : (lanesOfWord v)[k]? = some (v.extractLsb' (8 * k) 8) := by
  match k, h with
  | 0, _ | 1, _ | 2, _ | 3, _ => rfl

/-- The bits of a word from `start` on, as a quotient. -/
theorem extractLsb'_eq_ofNat_div {w : Nat} (v : BitVec w) (start len : Nat) :
    v.extractLsb' start len = BitVec.ofNat len (v.toNat / 2 ^ start) := by
  rw [BitVec.extractLsb', Nat.shiftRight_eq_div_pow]

/-- The four lanes of a word give it back (R65). -/
theorem wordOfLanes_lanesOfWord (v : Word) : wordOfLanes (lanesOfWord v) = some v := by
  refine congrArg some (BitVec.eq_of_toNat_eq ?_)
  simp only [toNat_append_eq_add, BitVec.extractLsb'_toNat, Nat.shiftRight_eq_div_pow]
  omega

/-- No list of another length carries a word (R90, R99). -/
theorem wordOfLanes_eq_none {bs : List Byte} (h : bs.length ≠ 4) : wordOfLanes bs = none := by
  unfold wordOfLanes
  split
  · exact absurd rfl h
  · rfl

/-- Settles O6: lane by lane, then the word the lanes join to, then the lists that carry none. -/
theorem lanesAreLittleEndian : Obligations.LanesAreLittleEndian := by
  refine ⟨fun v k hk => ?_, wordOfLanes_lanesOfWord, fun bs hlen => ?_⟩
  · rw [lanesOfWord_getElem? v hk, extractLsb'_eq_ofNat_div]
  · rw [decodeBytes, wordOfLanes_eq_none hlen]

/-- An address's offset is the address modulo the aperture's 512 bytes (R61). -/
theorem offsetOfAddress_toNat (address : Nat) : (offsetOfAddress address).toNat = address % 512 :=
  BitVec.toNat_ofNat address 9

/-- Settles O17: a multiple of 512 leaves no trace in an address's remainder, whatever the base is (R61). -/
theorem addressGivesOffset : Obligations.AddressGivesOffset := by
  refine ⟨Nat.mul_mod_right .., fun off hoff => ?_⟩
  calc (offsetOfAddress (Config.tseBase + off)).toNat
      = (512 * Config.tseBaseBlock + off) % 512 := offsetOfAddress_toNat _
    _ = off % 512 := Nat.mul_add_mod ..
    _ = off := Nat.mod_eq_of_lt hoff

end Sys2Proof.MemoryFamily
end

section
/-! PROOFS, family 30_encoding: the fields of a command word, the rules that reject one by name, and the 14 commands
that decode (R90 to R96). -/

namespace Sys2Proof.EncodingFamily

open Sys2Proof.Machine Sys2Proof.Safety Sys2Proof.StateFamily Sys2Proof.MemoryFamily

/-! ### Words and their fields -/

@[simp] theorem cmdFields_op_toNat (v : Word) : (cmdFields v).op.toNat = v.toNat % 16 := by
  simp [cmdFields]

@[simp] theorem cmdFields_std_toNat (v : Word) : (cmdFields v).std.toNat = v.toNat / 16 % 4 := by
  simp [cmdFields, Nat.shiftRight_eq_div_pow]

@[simp] theorem cmdFields_res_toNat (v : Word) : (cmdFields v).res.toNat = v.toNat / 64 := by
  have hlt : v.toNat < 2 ^ 32 := v.isLt
  simp only [cmdFields, BitVec.extractLsb'_toNat, Nat.shiftRight_eq_div_pow]
  omega

theorem cmdFields_op_eq_iff (v : Word) (op : BitVec 4) : (cmdFields v).op = op ↔ v.toNat % 16 = op.toNat := by
  rw [← BitVec.toNat_inj, cmdFields_op_toNat]

theorem cmdFields_std_eq_iff (v : Word) (std : BitVec 2) : (cmdFields v).std = std ↔ v.toNat / 16 % 4 = std.toNat := by
  rw [← BitVec.toNat_inj, cmdFields_std_toNat]

/-- The reserved bits are clear in the words below 64 (R90). -/
theorem cmdFields_res_eq_zero_iff (v : Word) : (cmdFields v).res = 0#26 ↔ v.toNat < 64 := by
  rw [← BitVec.toNat_inj, cmdFields_res_toNat, BitVec.toNat_ofNat]
  omega

/-- A word is its three fields (R90). -/
theorem fieldsWord_cmdFields (v : Word) : fieldsWord (cmdFields v) = v := by
  refine BitVec.eq_of_toNat_eq ?_
  simp only [fieldsWord, toNat_append_eq_add, cmdFields_op_toNat, cmdFields_std_toNat, cmdFields_res_toNat]
  omega

theorem fieldsWord_toNat (f : CmdFields) :
    (fieldsWord f).toNat = (f.res.toNat * 4 + f.std.toNat) * 16 + f.op.toNat := by
  simp only [fieldsWord, toNat_append_eq_add]
  omega

/-- Three fields are those of the word they join to (R90). -/
theorem cmdFields_fieldsWord (f : CmdFields) : cmdFields (fieldsWord f) = f := by
  have hop : f.op.toNat < 16 := f.op.isLt
  have hstd : f.std.toNat < 4 := f.std.isLt
  rw [CmdFields.mk.injEq]
  refine ⟨BitVec.eq_of_toNat_eq ?_, BitVec.eq_of_toNat_eq ?_, BitVec.eq_of_toNat_eq ?_⟩
  · rw [cmdFields_op_toNat, fieldsWord_toNat]
    omega
  · rw [cmdFields_std_toNat, fieldsWord_toNat]
    omega
  · rw [cmdFields_res_toNat, fieldsWord_toNat]
    omega

/-! ### The rules that forbid a word -/

/-- The OP codes R95 leaves unassigned. -/
def unassignedOps : List (BitVec 4) := [0x5#4, 0x6#4, 0x7#4, 0xC#4, 0xD#4, 0xE#4]

theorem unassignedOps_take_no_standard : ∀ op ∈ unassignedOps, op ≠ 0x8#4 ∧ op ≠ 0x9#4 := by decide

theorem takesStandard_eq_true_iff (f : CmdFields) : f.takesStandard = true ↔ f.op = 0x8#4 ∨ f.op = 0x9#4 := by
  simp [CmdFields.takesStandard]

theorem reservedClear_eq_false_iff (f : CmdFields) : f.reservedClear = false ↔ f.res ≠ 0#26 := by
  simp [CmdFields.reservedClear]

/-- R93 or R94 forbids the standard. -/
theorem standardAllowed_eq_false_iff (f : CmdFields) :
    f.standardAllowed = false ↔
      (f.op ≠ 0x8#4 ∧ f.op ≠ 0x9#4 ∧ f.std ≠ 0#2) ∨ ((f.op = 0x8#4 ∨ f.op = 0x9#4) ∧ f.std = 3#2) := by
  rw [← and_assoc, ← not_or, ← takesStandard_eq_true_iff, CmdFields.standardAllowed]
  cases f.takesStandard with
  | false => simp
  | true => simp

theorem opAssigned_eq_false_iff (f : CmdFields) : f.opAssigned = false ↔ f.op ∈ unassignedOps := by
  rw [CmdFields.opAssigned, Bool.not_eq_false', List.contains_iff_mem, unassignedOps]

/-- The fields that break R92, R93, R94 or R95. -/
theorem wellFormed_eq_false_iff (f : CmdFields) :
    f.wellFormed = false ↔
      f.res ≠ 0#26
        ∨ (f.op ≠ 0x8#4 ∧ f.op ≠ 0x9#4 ∧ f.std ≠ 0#2)
        ∨ ((f.op = 0x8#4 ∨ f.op = 0x9#4) ∧ f.std = 3#2)
        ∨ f.op ∈ unassignedOps := by
  rw [CmdFields.wellFormed, Bool.and_eq_false_iff, Bool.and_eq_false_iff, reservedClear_eq_false_iff,
    standardAllowed_eq_false_iff, opAssigned_eq_false_iff, or_assoc, or_assoc]

/-- R92 comes first in R96's order. -/
theorem decodeFields_reservedBits {f : CmdFields} (hres : f.res ≠ 0#26) :
    decodeFields f = .error .reservedBits := by
  rw [decodeFields, if_pos hres]

/-- R94: BUILD and MAP have no standard 3. -/
theorem decodeFields_reservedStandard {f : CmdFields} (hres : f.res = 0#26) (hop : f.op = 0x8#4 ∨ f.op = 0x9#4)
    (hstd : f.std = 3#2) : decodeFields f = .error .reservedStandard := by
  obtain hop | hop := hop <;> simp [decodeFields, hres, hop, hstd, decodeBuild, decodeMap]

/-- R93 comes before R95: a stray STD is reported for an unassigned OP too. -/
theorem decodeFields_strayStandard {f : CmdFields} (hres : f.res = 0#26) (h8 : f.op ≠ 0x8#4) (h9 : f.op ≠ 0x9#4)
    (hstd : f.std ≠ 0#2) : decodeFields f = .error .strayStandard := by
  simp [decodeFields, hres, h8, h9, hstd]

theorem decodePlain_unassigned : ∀ op ∈ unassignedOps, decodePlain op = .error .unassignedOp := by decide

theorem decodeFields_unassignedOp {f : CmdFields} (hres : f.res = 0#26) (hstd : f.std = 0#2)
    (hop : f.op ∈ unassignedOps) : decodeFields f = .error .unassignedOp := by
  obtain ⟨h8, h9⟩ := unassignedOps_take_no_standard f.op hop
  simp [decodeFields, hres, h8, h9, hstd, decodePlain_unassigned f.op hop]

/-- Fields that break a rule are rejected, under the first of R96's names that fits. -/
theorem decodeFields_error_of_illFormed {f : CmdFields} (h : f.wellFormed = false) :
    ∃ e, decodeFields f = .error e := by
  by_cases hres : f.res = 0#26
  · obtain hset | ⟨h8, h9, hstd⟩ | ⟨hop, hstd⟩ | hop := (wellFormed_eq_false_iff f).1 h
    · exact absurd hres hset
    · exact ⟨_, decodeFields_strayStandard hres h8 h9 hstd⟩
    · exact ⟨_, decodeFields_reservedStandard hres hop hstd⟩
    · by_cases hstd : f.std = 0#2
      · exact ⟨_, decodeFields_unassignedOp hres hstd hop⟩
      · obtain ⟨h8, h9⟩ := unassignedOps_take_no_standard f.op hop
        exact ⟨_, decodeFields_strayStandard hres h8 h9 hstd⟩
  · exact ⟨_, decodeFields_reservedBits hres⟩

theorem wellFormed_of_decodeFields_ok {f : CmdFields} {i : Instr} (h : decodeFields f = .ok i) :
    f.wellFormed = true := by
  by_contra hwf
  obtain ⟨e, herr⟩ := decodeFields_error_of_illFormed (Bool.eq_false_iff.2 hwf)
  exact nomatch h.symm.trans herr

/-! ### The 14 commands -/

theorem decodeFields_encodeFields (i : Instr) : decodeFields (encodeFields i) = .ok i := by
  cases i <;> rfl

theorem decode_encode (i : Instr) : decode (encode i) = .ok i := by
  rw [decode, encode, cmdFields_fieldsWord, decodeFields_encodeFields]

/-- The selectors that name a standard (R101). -/
theorem standard_cases : ∀ std : BitVec 2, std ≠ 3#2 → std = 0#2 ∨ std = 1#2 ∨ std = 2#2 := by decide

/-- The OP codes of the commands without a standard (R91). -/
theorem plainOp_cases : ∀ op : BitVec 4, op ≠ 0x8#4 → op ≠ 0x9#4 → op ∉ unassignedOps →
    op = 0x0#4 ∨ op = 0x1#4 ∨ op = 0x2#4 ∨ op = 0x3#4 ∨ op = 0x4#4 ∨ op = 0xA#4 ∨ op = 0xB#4 ∨ op = 0xF#4 := by
  decide

/-- The fields that break no rule are those of a row of R91. -/
theorem exists_encodeFields_of_wellFormed {f : CmdFields} (h : f.wellFormed = true) : ∃ i, f = encodeFields i := by
  have hrules := mt (wellFormed_eq_false_iff f).2 (by simp [h])
  obtain ⟨op, std, res⟩ := f
  push Not at hrules
  obtain ⟨rfl, hstray, hreserved, hassigned⟩ := hrules
  by_cases h8 : op = 0x8#4
  · subst h8
    obtain rfl | rfl | rfl := standard_cases std (hreserved (.inl rfl))
    · exact ⟨.buildJjy, rfl⟩
    · exact ⟨.buildWwvb, rfl⟩
    · exact ⟨.buildBpc, rfl⟩
  by_cases h9 : op = 0x9#4
  · subst h9
    obtain rfl | rfl | rfl := standard_cases std (hreserved (.inr rfl))
    · exact ⟨.mapJjy, rfl⟩
    · exact ⟨.mapWwvb, rfl⟩
    · exact ⟨.mapBpc, rfl⟩
  obtain rfl : std = 0#2 := hstray h8 h9
  obtain rfl | rfl | rfl | rfl | rfl | rfl | rfl | rfl := plainOp_cases op h8 h9 hassigned
  · exact ⟨.nop, rfl⟩
  · exact ⟨.bcd, rfl⟩
  · exact ⟨.quat, rfl⟩
  · exact ⟨.parity, rfl⟩
  · exact ⟨.checksum, rfl⟩
  · exact ⟨.pop, rfl⟩
  · exact ⟨.rewind, rfl⟩
  · exact ⟨.softReset, rfl⟩

/-- What the decoder accepts is well formed, so that it is some row of R91, and a row decodes to its own command. -/
theorem decodeFields_eq_ok_iff (f : CmdFields) (i : Instr) : decodeFields f = .ok i ↔ f = encodeFields i := by
  refine ⟨fun hok => ?_, fun h => h ▸ decodeFields_encodeFields i⟩
  obtain ⟨j, rfl⟩ := exists_encodeFields_of_wellFormed (wellFormed_of_decodeFields_ok hok)
  obtain rfl : j = i := Except.ok.inj ((decodeFields_encodeFields j).symm.trans hok)
  rfl

theorem decode_eq_ok_iff (v : Word) (i : Instr) : decode v = .ok i ↔ v = encode i := by
  rw [decode, decodeFields_eq_ok_iff, encode]
  constructor
  · intro hfields
    rw [← hfields, fieldsWord_cmdFields]
  · rintro rfl
    exact cmdFields_fieldsWord _

/-- A word decodes exactly when it breaks no rule (R92 to R96). -/
theorem exists_decode_eq_ok_iff (v : Word) : (∃ i, decode v = .ok i) ↔ (cmdFields v).wellFormed = true := by
  refine ⟨fun ⟨_, hok⟩ => wellFormed_of_decodeFields_ok hok, fun hwf => ?_⟩
  obtain ⟨i, hi⟩ := exists_encodeFields_of_wellFormed hwf
  exact ⟨i, (decodeFields_eq_ok_iff _ i).2 hi⟩

/-- A word that breaks a rule writes ILLEGAL_COMMAND to STATUS, under whatever name it is rejected (R96). -/
theorem runCommand_of_illFormed {v : Word} (h : (cmdFields v).wellFormed = false) (s : State) :
    runCommand v s = .next (s.setStatus (errorStatus illegalCommand)) := by
  obtain ⟨i, hok, -⟩ | ⟨_, -, hrun⟩ := runCommand_cases v s
  · exact absurd ((exists_decode_eq_ok_iff v).1 ⟨i, hok⟩) (by simp [h])
  · exact hrun

theorem decodeBytes_lanesOfWord (v : Word) : decodeBytes (lanesOfWord v) = decode v := by
  rw [decodeBytes, wordOfLanes_lanesOfWord]

/-! ### The obligations -/

/-- Settles O2: row by row, the fields of R91 join to the word of its CMD word column. -/
theorem encoderWritesTableWords : Obligations.EncoderWritesTableWords := by
  intro i
  cases i <;> rfl

/-- Settles O4: the decoder accepts the encoder's words alone, and these are R91's. -/
theorem onlyTableWordsDecode : Obligations.OnlyTableWordsDecode := by
  intro v i
  rw [decode_eq_ok_iff, encoderWritesTableWords i]

/-- Settles O5: a word's number says which rule its fields break first. -/
theorem illegalWordsAreRejectedByName : Obligations.IllegalWordsAreRejectedByName := by
  intro v
  have hres := cmdFields_res_eq_zero_iff v
  have hstd := cmdFields_std_eq_iff v
  have hop := cmdFields_op_eq_iff v
  refine ⟨fun hge => ?reserved, fun hv => ?standard, fun hge hlt h8 h9 => ?stray, fun hv => ?unassigned,
    exists_decode_eq_ok_iff v⟩
  case reserved => exact decodeFields_reservedBits (mt hres.1 (Nat.not_lt.2 hge))
  case standard =>
    refine decodeFields_reservedStandard (hres.2 (by omega)) ?_ ((hstd _).2 ?_)
    · simp only [hop, BitVec.toNat_ofNat]
      omega
    · rw [BitVec.toNat_ofNat]
      omega
  case stray =>
    refine decodeFields_strayStandard (hres.2 hlt) (mt (hop _).1 h8) (mt (hop _).1 h9) (mt (hstd _).1 ?_)
    rw [BitVec.toNat_ofNat]
    omega
  case unassigned =>
    simp only [List.mem_cons, List.not_mem_nil, or_false] at hv
    refine decodeFields_unassignedOp (hres.2 (by omega)) ((hstd _).2 ?_) ?_
    · rw [BitVec.toNat_ofNat]
      omega
    · simp only [unassignedOps, List.mem_cons, List.not_mem_nil, or_false, hop, BitVec.toNat_ofNat]
      omega

/-- Settles O8: the four kinds are the rules of R92 to R95, and a word that breaks one is ILLEGAL_COMMAND. -/
theorem illegalWordSetsStatusOnly : Obligations.IllegalWordSetsStatusOnly := by
  intro s v h
  exact runCommand_of_illFormed ((wellFormed_eq_false_iff (cmdFields v)).2 h) s

/-- Settles O1: the six words stand in R91's table. -/
theorem sampleWordsDecode : Obligations.SampleWordsDecode := by
  have hrow (i : Instr) : decode (commandWord i) = .ok i := (onlyTableWordsDecode _ i).2 rfl
  exact ⟨hrow .nop, hrow .quat, hrow .buildWwvb, hrow .mapBpc, hrow .pop, hrow .softReset⟩

/-- Settles O3: the fields survive being joined to a word, and the word survives its lanes. -/
theorem decodeEncodeRoundTrip : Obligations.DecodeEncodeRoundTrip := by
  intro i
  rw [decodeBytes_lanesOfWord]
  exact ⟨decode_encode i, decode_encode i⟩

end Sys2Proof.EncodingFamily
end

section
/-! PROOFS, family 40_primitives: digit sequences, parity and checksum, and the four primitive commands
(R130 to R147). -/

namespace Sys2Proof.PrimitivesFamily

open Sys2Proof.Machine Sys2Proof.Safety Sys2Proof.StateFamily Sys2Proof.EncodingFamily

/-! ### The value of a digit sequence -/

/-- Reading digits in base b after a value a shifts a past them. -/
theorem foldl_digits {α : Type} (b : Nat) (val : α → Nat) (digits : List α) (a : Nat) :
    digits.foldl (fun v d => b * v + val d) a =
      a * b ^ digits.length + digits.foldl (fun v d => b * v + val d) 0 := by
  induction digits generalizing a with
  | nil => simp
  | cons d digits ih =>
    simp only [List.foldl_cons, List.length_cons]
    rw [ih (b * a + val d), ih (b * 0 + val d)]
    ring

@[simp] theorem bitsValue_nil : bitsValue [] = 0 := rfl

@[simp] theorem digitsValue_nil : digitsValue [] = 0 := rfl

theorem bitsValue_cons (b : Bool) (bits : List Bool) :
    bitsValue (b :: bits) = b.toNat * 2 ^ bits.length + bitsValue bits := by
  simpa [bitsValue] using foldl_digits 2 Bool.toNat bits b.toNat

theorem digitsValue_cons (c : SymCode) (codes : List SymCode) :
    digitsValue (c :: codes) = c.toNat * 4 ^ codes.length + digitsValue codes := by
  simpa [digitsValue] using foldl_digits 4 BitVec.toNat codes c.toNat

/-- Reading the w bits of n gives n back, reduced to w bits (R147). -/
theorem bitsValue_binW (w n : Nat) : bitsValue (binW w n) = n % 2 ^ w := by
  induction w with
  | zero => simp [Nat.mod_one]
  | succ w ih =>
    have hbit : (n / 2 ^ w % 2 == 1).toNat = n / 2 ^ w % 2 := toNat_decide_mod_two _
    rw [binW_succ, bitsValue_cons, ih, binW_length, hbit, Nat.mod_pow_succ, Nat.mul_comm, Nat.add_comm]

/-- Reading the w base-4 digits of n gives n back, reduced to w digits (R147). -/
theorem digitsValue_quatW (w n : Nat) : digitsValue (quatW w n) = n % 4 ^ w := by
  induction w with
  | zero => simp [Nat.mod_one]
  | succ w ih =>
    have hdigit : (BitVec.ofNat 2 (n / 4 ^ w % 4)).toNat = n / 4 ^ w % 4 := by simp
    rw [quatW_succ, digitsValue_cons, ih, quatW_length, hdigit, Nat.mod_pow_succ, Nat.mul_comm, Nat.add_comm]

/-- Settles O25: the lengths, and the values by induction on the width. -/
theorem digitsRoundTrip : Obligations.DigitsRoundTrip :=
  fun w n => ⟨binW_length w n, quatW_length w n, bitsValue_binW w n, digitsValue_quatW w n⟩

/-! ### Parity -/

theorem popcount_cons (b : Bool) (bits : List Bool) : popcount (b :: bits) = b.toNat + popcount bits := by
  cases b <;> simp [popcount, Nat.add_comm]

/-- A further bit inverts the parity when it is 1. -/
theorem parity_cons (b : Bool) (bits : List Bool) : parity (b :: bits) = (b != parity bits) := by
  simp only [parity, popcount_cons]
  obtain h | h := Nat.mod_two_eq_zero_or_one (popcount bits) <;> cases b <;> simp [Nat.add_mod, h]

/-- The parity of a concatenation is the XOR of the parities (R146). -/
theorem parity_append (a b : List Bool) : parity (a ++ b) = (parity a != parity b) := by
  induction a with
  | nil => simp [parity, popcount]
  | cons x a ih => rw [List.cons_append, parity_cons, parity_cons, ih, Bool.bne_assoc]

/-- Settles O27: checksum is parity under another name. -/
theorem parityOfConcatenation : Obligations.ParityOfConcatenation :=
  fun a b => ⟨parity_append a b, parity_append a b⟩

/-- Settles O26: the flipped bit stands first, or the parity of the rest is flipped. -/
theorem bitFlipFlipsParity : Obligations.BitFlipFlipsParity := by
  intro bits
  induction bits with
  | nil => exact fun i h => absurd h (Nat.not_lt_zero i)
  | cons b bits ih =>
    intro i h
    cases i with
    | zero =>
      simp only [List.set_cons_zero, List.getElem_cons_zero, parity_cons]
      exact Bool.not_bne b (parity bits)
    | succ i =>
      have hrest := ih i (Nat.lt_of_succ_lt_succ h)
      rw [List.getElem_cons_succ, List.set_cons_succ, parity_cons, parity_cons, hrest]
      exact Bool.bne_not b (parity bits)

/-! ### The 1 bits of an operand -/

/-- The 1 bits of a number's w bits are the positions below w where it has a 1. -/
theorem popcount_binW {n : Nat} (v : BitVec n) (w : Nat) :
    popcount (binW w v.toNat) = ((List.range w).filter fun k => v.getLsbD k).length := by
  induction w with
  | zero => rfl
  | succ w ih =>
    have hbit : (v.toNat / 2 ^ w % 2 == 1) = v.getLsbD w :=
      (Nat.testBit_eq_decide_div_mod_eq (x := v.toNat)).symm.trans (BitVec.testBit_toNat v)
    rw [binW_succ, popcount_cons, ih, hbit, List.range_succ, List.filter_append, List.length_append, Nat.add_comm]
    cases h : v.getLsbD w <;> simp [h]

/-- The bits PARITY and CHECKSUM read, without the reduction of N that they already do. -/
theorem operandBits_eq (s : State) : operandBits s = binW s.argW.toNat s.argN.toNat := binW_mod _ _

/-! ### Packed symbols -/

theorem digitsValue_lt (codes : List SymCode) : digitsValue codes < 4 ^ codes.length := by
  induction codes with
  | nil => simp
  | cons c codes ih =>
    have hc : c.toNat * 4 ^ codes.length ≤ 3 * 4 ^ codes.length :=
      Nat.mul_le_mul_right _ (Nat.le_of_lt_succ c.isLt)
    rw [digitsValue_cons, List.length_cons, Nat.pow_succ]
    omega

/-- Symbols packed most significant first make the number their codes are the digits of. -/
theorem sum_packed_eq_digitsValue (codes : List SymCode) :
    ((List.range codes.length).map fun i => (codes.getD i 0).toNat * 4 ^ (codes.length - 1 - i)).sum =
      digitsValue codes := by
  induction codes with
  | nil => rfl
  | cons c codes ih =>
    have hexp (i : Nat) : codes.length - 1 - i = codes.length - (i + 1) := by omega
    rw [digitsValue_cons, ← ih]
    simp [List.range_succ_eq_map, Function.comp_def, hexp]

/-- The two bits of a code above r stand over the bits of r. -/
theorem binW_append_code (c : SymCode) {k r : Nat} (hr : r < 4 ^ k) :
    binW (2 * (k + 1)) (c.toNat * 4 ^ k + r) = codeBits c ++ binW (2 * k) r := by
  have hpow : 2 ^ (2 * k) = 4 ^ k := Nat.pow_mul 2 2 k
  have hhigh : (c.toNat * 4 ^ k + r) / 2 ^ (2 * k) = c.toNat := by
    rw [hpow, Nat.mul_comm, Nat.mul_add_div (Nat.pow_pos (by decide)), Nat.div_eq_of_lt hr, Nat.add_zero]
  have hlow : (c.toNat * 4 ^ k + r) % 2 ^ (2 * k) = r := by
    rw [hpow, Nat.mul_add_mod_self_right, Nat.mod_eq_of_lt hr]
  have hbits : ∀ c : SymCode, [c.toNat / 2 % 2 == 1, c.toNat % 2 == 1] = codeBits c := by decide
  rw [Nat.mul_add, binW_succ, binW_succ, Nat.pow_succ, ← Nat.div_div_eq_div_mul, hhigh, ← binW_mod, hlow, ← hbits]
  rfl

/-- The bits of packed symbols are the symbols' bits in order (R143). -/
theorem binW_digitsValue (codes : List SymCode) : binW (2 * codes.length) (digitsValue codes) = qbits codes := by
  induction codes with
  | nil => rfl
  | cons c codes ih =>
    rw [digitsValue_cons, List.length_cons, binW_append_code c (digitsValue_lt codes), ih]
    rfl

/-! ### The commands, by case -/

/-- The width test of BCD, PARITY and CHECKSUM, as the spec writes it (R97). -/
theorem ite_bitWidthLegal {α : Type} (w : Nat) (a b : α) :
    (if bitWidthLegal w then a else b) = if w < 1 ∨ 16 < w then b else a := by
  rw [← ite_not]
  exact if_congr (by rw [bitWidthLegal_iff]; omega) rfl rfl

/-- The width test of QUAT, as the spec writes it (R97). -/
theorem ite_quatWidthLegal {α : Type} (w : Nat) (a b : α) :
    (if quatWidthLegal w then a else b) = if w < 1 ∨ 8 < w then b else a := by
  rw [← ite_not]
  exact if_congr (by rw [quatWidthLegal_iff]; omega) rfl rfl

/-- How BCD and QUAT complete: with the value of the fitted digits, or with the overflow (R132, R137). -/
def completeFitted {α : Type} (value : List α → Nat) (s : State) : Except CmdError (Fitted α) → State
  | .ok f => completeResult (value f.digits) f.truncated s
  | .error e => s.setStatus (errorStatus e)

/-- The overflow policy on N, seen in RESULT and STATUS: whatever the digits, their value is N reduced to the width, so
that truncating N before taking its digits changes nothing (R131, R136). -/
theorem completeFitted_argN {α : Type} {value : List α → Nat} {digits : Nat → List α} {bound : Nat}
    (hvalue : ∀ n, value (digits n) = n % bound) (s : State) :
    completeFitted value s
        (if s.argN.toNat < bound then .ok { digits := digits s.argN.toNat, truncated := false }
        else if s.truncEn then .ok { digits := digits (s.argN.toNat % bound), truncated := true }
        else .error (overflowAt 0)) =
      if s.argN.toNat < bound then (s.setResult s.argN).setStatus (successStatus false)
      else if s.truncEn then completeResult (s.argN.toNat % bound) true s
      else s.setStatus (errorStatus (overflowAt 0)) := by
  by_cases hn : s.argN.toNat < bound
  · simp [hn, completeFitted, completeResult, completeOk, hvalue, Nat.mod_eq_of_lt hn]
  · by_cases ht : s.truncEn = true
    · simp [hn, ht, completeFitted, hvalue]
    · simp [hn, ht, completeFitted]

/-- All that BCD can do: refuse the width, or apply the overflow policy (R132). -/
theorem exec_bcd_eq (s : State) :
    exec .bcd s = .next (
      if s.argW.toNat < 1 ∨ 16 < s.argW.toNat then s.setStatus (errorStatus illegalCommand)
      else completeFitted bitsValue s (fitb s.truncEn s.argN.toNat s.argW.toNat 0)) := by
  rw [exec, execBcd, ite_bitWidthLegal, operandN, operandW]
  cases fitb s.truncEn s.argN.toNat s.argW.toNat 0 <;> rfl

/-- All that QUAT can do: refuse the width, or apply the overflow policy (R137). -/
theorem exec_quat_eq (s : State) :
    exec .quat s = .next (
      if s.argW.toNat < 1 ∨ 8 < s.argW.toNat then s.setStatus (errorStatus illegalCommand)
      else completeFitted digitsValue s (fitq s.truncEn s.argN.toNat s.argW.toNat 0)) := by
  rw [exec, execQuat, ite_quatWidthLegal, operandN, operandW]
  cases fitq s.truncEn s.argN.toNat s.argW.toNat 0 <;> rfl

theorem decode_commandWord (i : Instr) : decode (commandWord i) = .ok i := (onlyTableWordsDecode _ i).2 rfl

/-- Settles O21: the width, then the overflow policy on digits that read back as N mod 2^W. -/
theorem bcdResult : Obligations.BcdResult := by
  refine ⟨decode_commandWord .bcd, fun s => ?_⟩
  rw [exec_bcd_eq, fitb, completeFitted_argN (bitsValue_binW _)]
  rfl

/-- Settles O22: the width, then the overflow policy on digits that read back as N mod 4^W. -/
theorem quatResult : Obligations.QuatResult := by
  refine ⟨decode_commandWord .quat, fun s => ?_⟩
  rw [exec_quat_eq, fitq, completeFitted_argN (digitsValue_quatW _)]
  rfl

/-- CHECKSUM does what PARITY does (R143). -/
theorem exec_checksum_eq_parity (s : State) : exec .checksum s = exec .parity s := rfl

/-- All that PARITY can do: refuse the width, or count the 1 bits of its operand (R142). -/
theorem exec_parity_eq (s : State) :
    exec .parity s = .next (
      if s.argW.toNat < 1 ∨ 16 < s.argW.toNat then s.setStatus (errorStatus illegalCommand)
      else completeResult (checksum (binW s.argW.toNat s.argN.toNat)).toNat false s) := by
  rw [← operandBits_eq]
  exact congrArg _ (ite_bitWidthLegal _ _ _)

/-- PARITY's result counts the positions below W where N has a 1. -/
theorem exec_parity_getLsbD (s : State) :
    exec .parity s = .next (
      if s.argW.toNat < 1 ∨ 16 < s.argW.toNat then
        { s with status := { err := 3, trunc := false, errIndex := 0 } }
      else
        { s with
          result := BitVec.ofNat 16 (((List.range s.argW.toNat).filter fun k => s.argN.getLsbD k).length % 2)
          status := { err := 0, trunc := false, errIndex := 0 } }) := by
  rw [exec_parity_eq, checksum_toNat, popcount_binW]
  rfl

/-- Settles O23: PARITY's two cases, with its 1 bits counted by position. -/
theorem parityResult : Obligations.ParityResult := ⟨decode_commandWord .parity, exec_parity_getLsbD⟩

/-- With W twice the number of symbols packed into N, CHECKSUM gives the symbols' checksum (R143). -/
theorem exec_checksum_packed (s : State) (c : List SymCode) (hpos : 1 ≤ c.length) (hle : c.length ≤ 8)
    (hn : s.argN.toNat = digitsValue c) (hw : s.argW.toNat = 2 * c.length) :
    exec .checksum s = .next (completeResult ((c.map ones).sum % 2) false s) := by
  rw [exec_checksum_eq_parity, exec_parity_eq, if_neg (by omega), hn, hw, binW_digitsValue, checksum_qbits]

/-- Settles O24: PARITY's answer, and the bits of the packed symbols. -/
theorem checksumResult : Obligations.ChecksumResult :=
  ⟨decode_commandWord .checksum, exec_parity_getLsbD, fun s c hpos hle hn hw =>
    exec_checksum_packed s c hpos hle (hn.trans (sum_packed_eq_digitsValue c)) hw⟩

end Sys2Proof.PrimitivesFamily
end

section
/-! PROOFS, family 41_frame_jjy_wwvb: what every BUILD leaves, and what it reads (R31 to R34, R190, R191, R200, R331). -/

namespace Sys2Proof.FrameJjyWwvbFamily

open Sys2Proof.Machine Sys2Proof.Safety Sys2Proof.StateFamily

/-! ### Every BUILD: failed, or its standard's frame -/

/-- All that the BUILD of a standard can do: discard the frame under an error of a BUILD, or commit its slots. -/
theorem exec_buildOf_cases (std : Standard) (s : State) :
    (∃ e, isBuildError e ∧ exec (buildOf std) s = .next (s.setStatus (errorStatus e)).clearFrame)
    ∨ ∃ tr, (std = .bpc → bpcPhase (timeSample s).second = true)
        ∧ exec (buildOf std) s = .next (completeOk tr (s.commitFrame (builtSlots std (timeSample s)) std)) := by
  cases std with
  | jjy => exact (execBuildJjy_cases s).imp_right fun ⟨tr, _, h⟩ => ⟨tr, (fun hstd => nomatch hstd), h⟩
  | wwvb => exact (execBuildWwvb_cases s).imp_right fun ⟨tr, _, h⟩ => ⟨tr, (fun hstd => nomatch hstd), h⟩
  | bpc => exact (execBuildBpc_cases s).imp_right fun ⟨tr, hphase, h⟩ => ⟨tr, fun _ => hphase, h⟩

/-- A BUILD that reports no error has committed its standard's slots. -/
theorem built_of_err_eq_zero {std : Standard} {s t : State} (h : exec (buildOf std) s = .next t)
    (herr : t.status.err = 0) :
    ∃ tr, t = completeOk tr (s.commitFrame (builtSlots std (timeSample s)) std) := by
  obtain ⟨e, -, hfail⟩ | ⟨tr, -, hbuilt⟩ := exec_buildOf_cases std s
  · obtain rfl := Host.Outcome.next.inj (h.symm.trans hfail)
    exact absurd herr (errorStatus_err_ne_zero e)
  · exact ⟨tr, Host.Outcome.next.inj (h.symm.trans hbuilt)⟩

/-- Settles O37: a failed BUILD leaves no frame, and a frame it commits is legal from the first symbol on. -/
theorem buildLeavesLegalFrame : Obligations.BuildLeavesLegalFrame := by
  intro i s t hi h
  obtain ⟨std, rfl⟩ := exists_buildOf hi
  refine ⟨?legal, fun herr => ?fresh⟩
  case legal =>
    obtain ⟨e, he, hfail⟩ | ⟨tr, hphase, hbuilt⟩ := exec_buildOf_cases std s
    · obtain rfl := Host.Outcome.next.inj (h.symm.trans hfail)
      exact legal_of_buildFailed he s
    · obtain rfl := Host.Outcome.next.inj (h.symm.trans hbuilt)
      exact legal_of_built std tr s hphase
  case fresh =>
    obtain ⟨tr, rfl⟩ := built_of_err_eq_zero h herr
    exact ⟨rfl, rfl⟩

/-- Settles O31: what BUILD.JJY and BUILD.WWVB commit has R191's shape. -/
theorem markersOfBuiltFrames : Obligations.MarkersOfBuiltFrames := by
  intro i s t hi h herr k hk
  obtain ⟨std, hstd, rfl⟩ : ∃ std, std ≠ Standard.bpc ∧ i = buildOf std := by
    obtain rfl | rfl := hi
    · exact ⟨.jjy, by decide, rfl⟩
    · exact ⟨.wwvb, by decide, rfl⟩
  obtain ⟨tr, rfl⟩ := built_of_err_eq_zero h herr
  rw [slotOf_commitFrame (by simp [frameLen_le])]
  exact builtSlots_markerFrame hstd _ k hk

/-! ### A BUILD reads the sample and the policy alone -/

theorem timeSample_congr {s s' : State} (hdate : s.tsDate = s'.tsDate) (htime : s.tsTime = s'.tsTime)
    (hyday : s.tsYday = s'.tsYday) : timeSample s = timeSample s' := by
  simp only [timeSample, hdate, htime, hyday]

/-- The WWVB substitution adds no error to the skeleton's (R195). -/
theorem skeleton_error_of_wwvbFrame {truncEn : Bool} {ts : TimeSample} {e : CmdError}
    (h : wwvbFrame truncEn ts = .error e) : skeleton truncEn ts = .error e := by
  cases hs : skeleton truncEn ts with
  | error e' => simpa [wwvbFrame, hs] using h
  | ok f => simp [wwvbFrame, hs] at h

/-- The frame builders meet overflows only, at a field's first index (R192, R234). -/
theorem isBuildError_of_frameOf {std : Standard} {truncEn : Bool} {ts : TimeSample} {e : CmdError}
    (h : frameOf std truncEn ts = .error e) : isBuildError e := by
  have hskeleton (e : CmdError) (h : skeleton truncEn ts = .error e) : isBuildError e := by
    obtain ⟨idx, hidx, herr⟩ | ⟨f, hok, -⟩ := skeleton_cases truncEn ts
    · exact .inr ⟨idx, hidx, Except.error.inj (h.symm.trans herr)⟩
    · exact nomatch h.symm.trans hok
  cases std with
  | jjy => exact hskeleton e h
  | wwvb => exact hskeleton e (skeleton_error_of_wwvbFrame h)
  | bpc =>
    obtain ⟨idx, hidx, herr⟩ | ⟨f, hok, -⟩ := bpcFrame_cases truncEn ts
    · exact .inr ⟨idx, hidx, Except.error.inj (h.symm.trans herr)⟩
    · exact nomatch h.symm.trans hok

/-- An error of a BUILD leaves the same outputs in every state (R331). -/
theorem raiseError_sameOutputs {e : CmdError} (he : isBuildError e) (s s' : State) :
    SameOutputs (raiseError true e s) (raiseError true e s') := by
  rw [raiseError_build he, raiseError_build he]
  exact ⟨rfl, rfl, rfl, rfl, rfl⟩

/-- What a BUILD has built settles its outputs in every state (R190, R331). -/
theorem completeBuild_sameOutputs {built : Except CmdError (Fitted SymCode)}
    (herror : ∀ e, built = .error e → isBuildError e) (std : Standard) (s s' : State) :
    SameOutputs (completeBuild std built s) (completeBuild std built s') := by
  cases built with
  | ok f => exact ⟨rfl, rfl, rfl, rfl, rfl⟩
  | error e => exact raiseError_sameOutputs (herror e rfl) s s'

/-- Settles O35: the phase check and the frame builder read the sample and the policy, and what they give settles the
outputs. -/
theorem buildDependsOnSampleOnly : Obligations.BuildDependsOnSampleOnly := by
  intro i s s' hi hdate htime hyday hpolicy
  obtain ⟨std, rfl⟩ := exists_buildOf hi
  refine ⟨_, _, exec_buildOf std s, exec_buildOf std s', ?_⟩
  rw [timeSample_congr hdate htime hyday, hpolicy]
  by_cases hphase : phaseOf std (timeSample s') = true
  · rw [if_pos hphase, if_pos hphase]
    obtain ⟨hstatus, hinfo, -, -, hframe⟩ :=
      completeBuild_sameOutputs (built := frameOf std s'.truncEn (timeSample s'))
        (fun _ => isBuildError_of_frameOf) std s' s
    exact ⟨hstatus, hinfo, hframe⟩
  · rw [if_neg hphase, if_neg hphase]
    obtain ⟨hstatus, hinfo, -, -, hframe⟩ := raiseError_sameOutputs (.inl rfl) s' s
    exact ⟨hstatus, hinfo, hframe⟩

end Sys2Proof.FrameJjyWwvbFamily
end

section
/-! PROOFS, family 41_frame_jjy_wwvb: the slots a frame has are the content columns of R193 (R172 to R189, R193, R196,
R197). -/

namespace Sys2Proof.FrameJjyWwvbFamily

open Sys2Proof.Machine Sys2Proof.Safety Sys2Proof.StateFamily Sys2Proof.PrimitivesFamily

/-! ### The slots of R193 -/

/-- The symbol of a bit given as a number's parity. -/
theorem symOfBit_mod_two (n : Nat) : symOfBit (n % 2 == 1) = BitVec.ofNat 2 (n % 2) := by
  obtain h | h := Nat.mod_two_eq_zero_or_one n <;> rw [h] <;> rfl

/-- The slots of a decimal digit, its most significant bit first (R173). -/
theorem map_symOfBit_binW_succ (w v : Nat) :
    (binW (w + 1) v).map symOfBit = digitBit v w :: (binW w v).map symOfBit := by
  rw [binW_succ, List.map_cons, symOfBit_mod_two, digitBit]

theorem popcount_nil : popcount [] = 0 := rfl

/-- The 1 bits of a number, counted from its top bit down. -/
theorem popcount_binW_succ (w v : Nat) : popcount (binW (w + 1) v) = v / 2 ^ w % 2 + popcount (binW w v) := by
  rw [binW_succ, popcount_cons]
  exact congrArg (· + _) (toNat_decide_mod_two _)

/-- The parity slot of a two-digit field: the parity of the bits of both digits (R140, R184). -/
theorem symOfBit_parity_append (a b : List Bool) :
    symOfBit (parity (a ++ b)) = BitVec.ofNat 2 ((popcount a + popcount b) % 2) := by
  rw [parity, symOfBit_mod_two, popcount, List.count_append]
  rfl

theorem hourParity_eq_jjySlot (ts : TimeSample) :
    symOfBit (parity (binW 2 (ts.hour / 10) ++ binW 4 (ts.hour % 10))) = jjySlot ts 36 := by
  rw [symOfBit_parity_append]
  simp only [popcount_binW_succ, binW_zero, popcount_nil, Nat.reducePow, Nat.div_one, Nat.add_zero, ← Nat.add_assoc]
  rfl

theorem minuteParity_eq_jjySlot (ts : TimeSample) :
    symOfBit (parity (binW 3 (ts.minute / 10) ++ binW 4 (ts.minute % 10))) = jjySlot ts 37 := by
  rw [symOfBit_parity_append]
  simp only [popcount_binW_succ, binW_zero, popcount_nil, Nat.reducePow, Nat.div_one, Nat.add_zero, ← Nat.add_assoc]
  rfl

/-- The slots of a TimeSample are the content column of R193: two lists of 60 entries, field by field the bits of the same
digits. -/
theorem skeletonSlots_eq_map_jjySlot (ts : TimeSample) : skeletonSlots ts = (List.range 60).map (jjySlot ts) := by
  have hyear : ts.year % 100 % 10 = ts.year % 10 := Nat.mod_mod_of_dvd _ (by decide)
  unfold skeletonSlots frameLayout
  simp only [List.take_left' (binW_length _ _), List.drop_left' (binW_length _ _), hyear, map_symOfBit_binW_succ,
    binW_zero, hourParity_eq_jjySlot, minuteParity_eq_jjySlot, List.range, List.range.loop, List.replicate,
    List.map_cons, List.map_nil, List.cons_append, List.nil_append]
  rfl

theorem skeletonSlots_getD (ts : TimeSample) {i : Nat} (hi : i < 60) : (skeletonSlots ts).getD i 0 = jjySlot ts i := by
  rw [skeletonSlots_eq_map_jjySlot, List.getD_eq_getElem _ _ (by simpa using hi)]
  simp

/-! ### The WWVB substitution -/

/-- The leap-year rule, as R197 writes it. -/
theorem symOfBit_leap (y : Nat) :
    symOfBit (leap y) = if (y % 4 = 0 ∧ y % 100 ≠ 0) ∨ y % 400 = 0 then 1 else 0 := by
  have hleap : leap y = true ↔ (y % 4 = 0 ∧ y % 100 ≠ 0) ∨ y % 400 = 0 := by simp [leap]
  exact if_congr hleap rfl rfl

/-- An entry of a frame after one slot is set. -/
theorem getD_set {f : List SymCode} {j : Nat} (hj : j < f.length) (c : SymCode) (i : Nat) :
    (f.set j c).getD i 0 = if i = j then c else f.getD i 0 := by
  by_cases h : j = i
  · subst h
    simp [hj]
  · rw [if_neg (Ne.symm h), List.getD_eq_getElem?_getD, List.getElem?_set_ne h, List.getD_eq_getElem?_getD]

/-- The slots of a WWVB frame are R193's content column for WWVB: the DUT1 slots are Zero in the skeleton already, and
index 40 gets the leap-year flag (R196). -/
theorem wwvbSubst_getD (ts : TimeSample) {i : Nat} (hi : i < 60) :
    (wwvbSubst (skeletonSlots ts) ts).getD i 0 = wwvbSlot ts i := by
  have h34 : jjySlot ts 34 = symZero := rfl
  have h35 : jjySlot ts 35 = symZero := rfl
  have h38 : jjySlot ts 38 = symZero := rfl
  simp only [wwvbSubst, Config.wwvbLyIndex]
  rw [getD_set (by simp), getD_set (by simp), getD_set (by simp), getD_set (by simp), skeletonSlots_getD ts hi,
    wwvbSlot, symOfBit_leap]
  by_cases h40 : i = 40
  · simp only [if_pos h40]
  simp only [if_neg h40]
  split_ifs with hi38 hi35 hi34
  · rw [hi38, h38]
  · rw [hi35, h35]
  · rw [hi34, h34]
  · rfl

end Sys2Proof.FrameJjyWwvbFamily
end

section
/-! PROOFS, family 41_frame_jjy_wwvb: BUILD.JJY and BUILD.WWVB in every case, and beside each other (R170, R192, R193,
R195 to R198). -/

namespace Sys2Proof.FrameJjyWwvbFamily

open Sys2Proof.Machine Sys2Proof.Safety Sys2Proof.StateFamily Sys2Proof.PrimitivesFamily

/-! ### BUILD.JJY and BUILD.WWVB by the table -/

/-- What the tables give for the BUILD of a standard with Markers: the phase, the overflows in R192's order, or the
frame of the content column `slot` (R170, R192, R193, R195). -/
def builtByTable (std : BitVec 2) (slot : TimeSample → Nat → SymCode) (s : State) : State :=
  let ts := timeSample s
  if ts.second ≠ 0 then buildFailed 1 0 s
  else if s.truncEn = false ∧ 80 ≤ ts.minute then buildFailed 2 1 s
  else if s.truncEn = false ∧ 40 ≤ ts.hour then buildFailed 2 12 s
  else if s.truncEn = false ∧ 400 ≤ ts.yday then buildFailed 2 22 s
  else buildDone std 60 (slot ts) (decide (80 ≤ ts.minute ∨ 40 ≤ ts.hour ∨ 400 ≤ ts.yday)) s

/-- A committed frame is the frame of any column that has its slots (R190, R330). -/
theorem completeOk_commitFrame_eq_buildDone {f : List SymCode} {slot : Nat → SymCode} (hlen : f.length = 60)
    (hslot : ∀ i, i < 60 → f.getD i 0 = slot i) (std : Standard) (tr : Bool) (s : State) :
    completeOk tr (s.commitFrame f std) = buildDone std.code 60 slot tr s := by
  have hframe : (Vector.ofFn fun i : Fin 60 => f.getD i 0) =
      Vector.ofFn fun i : Fin 60 => if i.val < 60 then slot i.val else 0 :=
    congrArg Vector.ofFn (funext fun i => by rw [if_pos i.isLt, hslot i i.isLt])
  rw [State.commitFrame, hframe, hlen]
  rfl

/-- The frame builder of a standard with Markers, in the bounds of R192. -/
theorem frameOf_eq {std : Standard} (hstd : std ≠ .bpc) (truncEn : Bool) (ts : TimeSample) :
    frameOf std truncEn ts =
      if truncEn = false ∧ 80 ≤ ts.minute then .error (overflowAt 1)
      else if truncEn = false ∧ 40 ≤ ts.hour then .error (overflowAt 12)
      else if truncEn = false ∧ 400 ≤ ts.yday then .error (overflowAt 22)
      else .ok
        { digits := builtSlots std ts
          truncated := decide (80 ≤ ts.minute ∨ 40 ≤ ts.hour ∨ 400 ≤ ts.yday) } := by
  have hskeleton := skeleton_eq truncEn ts
  simp only [Nat.le_div_iff_mul_le (show 0 < 10 by decide), Nat.le_div_iff_mul_le (show 0 < 100 by decide),
    Nat.reduceMul, ← Bool.decide_or, or_assoc] at hskeleton
  cases std with
  | jjy => exact hskeleton
  | wwvb =>
    rw [frameOf, wwvbFrame, hskeleton]
    split_ifs <;> rfl
  | bpc => exact absurd rfl hstd

/-- BUILD.JJY and BUILD.WWVB do what the tables say, for any content column that has the slots of their frames. -/
theorem exec_buildOf_eq_builtByTable {std : Standard} (hstd : std ≠ .bpc) {slot : TimeSample → Nat → SymCode}
    (hslot : ∀ ts i, i < 60 → (builtSlots std ts).getD i 0 = slot ts i) (s : State) :
    exec (buildOf std) s = .next (builtByTable std.code slot s) := by
  have hlen (ts : TimeSample) : (builtSlots std ts).length = 60 := by
    cases std with
    | bpc => exact absurd rfl hstd
    | _ => exact builtSlots_length _ ts
  have hphase (ts : TimeSample) : phaseOf std ts = true ↔ ¬ ts.second ≠ 0 := by
    cases std with
    | bpc => exact absurd rfl hstd
    | _ => simp [phaseOf]
  rw [exec_buildOf, frameOf_eq hstd, if_congr (hphase _) rfl rfl, ite_not, builtByTable]
  simp only [← completeOk_commitFrame_eq_buildDone (hlen _) (hslot _)]
  split_ifs <;> rfl

theorem exec_buildJjy_eq (s : State) : exec .buildJjy s = .next (builtByTable 0 jjySlot s) :=
  exec_buildOf_eq_builtByTable (std := .jjy) (by decide) (fun ts _ => skeletonSlots_getD ts) s

theorem exec_buildWwvb_eq (s : State) : exec .buildWwvb s = .next (builtByTable 1 wwvbSlot s) :=
  exec_buildOf_eq_builtByTable (std := .wwvb) (by decide) (fun ts _ => wwvbSubst_getD ts) s

/-- Settles O28: the word stands in R91's table, and the skeleton's slots are R193's column for JJY. -/
theorem buildJjyBuildsTable : Obligations.BuildJjyBuildsTable := ⟨decode_commandWord .buildJjy, exec_buildJjy_eq⟩

/-- Settles O29: the word stands in R91's table, and the substituted slots are R193's column for WWVB. -/
theorem buildWwvbBuildsTable : Obligations.BuildWwvbBuildsTable := ⟨decode_commandWord .buildWwvb, exec_buildWwvb_eq⟩

/-! ### WWVB beside JJY -/

/-- The sample and the policy choose one of two answers, whatever the standard and its column are. -/
theorem builtByTable_cases (s : State) :
    (∃ err idx, err ≠ 0 ∧ ∀ std slot, builtByTable std slot s = buildFailed err idx s)
    ∨ ∃ tr, ∀ std slot, builtByTable std slot s = buildDone std 60 (slot (timeSample s)) tr s := by
  unfold builtByTable
  by_cases hs : (timeSample s).second ≠ 0
  · exact .inl ⟨1, 0, by decide, fun _ _ => if_pos hs⟩
  by_cases hm : s.truncEn = false ∧ 80 ≤ (timeSample s).minute
  · exact .inl ⟨2, 1, by decide, fun _ _ => by rw [if_neg hs, if_pos hm]⟩
  by_cases hh : s.truncEn = false ∧ 40 ≤ (timeSample s).hour
  · exact .inl ⟨2, 12, by decide, fun _ _ => by rw [if_neg hs, if_neg hm, if_pos hh]⟩
  by_cases hd : s.truncEn = false ∧ 400 ≤ (timeSample s).yday
  · exact .inl ⟨2, 22, by decide, fun _ _ => by rw [if_neg hs, if_neg hm, if_neg hh, if_pos hd]⟩
  exact .inr ⟨_, fun _ _ => by rw [if_neg hs, if_neg hm, if_neg hh, if_neg hd]⟩

/-- The entries of a frame of 60 slots. -/
theorem slotOf_buildDone (std : BitVec 2) (slot : Nat → SymCode) (tr : Bool) (s : State) (i : Nat) :
    slotOf (buildDone std 60 slot tr s) i = if i < 60 then slot i else 0 := by
  by_cases hi : i < 60 <;> simp [slotOf, buildDone, hi]

theorem wwvbSlot_of_ne {i : Nat} (h : i ≠ 40) (ts : TimeSample) : wwvbSlot ts i = jjySlot ts i := if_neg h

/-- Settles O32: both commands fail alike, or commit columns that differ at index 40 alone. -/
theorem wwvbDiffersAtLeapSlotOnly : Obligations.WwvbDiffersAtLeapSlotOnly := by
  intro s
  refine ⟨_, _, exec_buildJjy_eq s, exec_buildWwvb_eq s, ?_⟩
  obtain ⟨err, idx, herr, hfail⟩ | ⟨tr, hdone⟩ := builtByTable_cases s
  · rw [hfail, hfail]
    exact ⟨rfl, fun _ _ => rfl, fun hok => absurd hok herr⟩
  · rw [hdone, hdone]
    refine ⟨rfl, fun k hk => ?_, fun _ => ?_⟩
    · rw [slotOf_buildDone, slotOf_buildDone, wwvbSlot_of_ne hk]
    · rw [slotOf_buildDone]
      rfl

end Sys2Proof.FrameJjyWwvbFamily
end

section
/-! PROOFS, family 42_frame_bpc: the slots of a BPC frame are the content column of R235 (R222 to R233, R235), and p3 holds
a checksum and the PM flag (R229). -/

namespace Sys2Proof.FrameBpcFamily

open Sys2Proof.Machine Sys2Proof.Safety Sys2Proof.StateFamily

/-! ### The check symbols -/

/-- p3 from the codes of the time block (R229). -/
theorem bpcP3_eq (codes : List SymCode) (hour : Nat) :
    bpcP3 codes hour = BitVec.ofNat 2 ((codes.map ones).sum % 2 + if 12 ≤ hour then 2 else 0) := by
  rw [bpcP3, checksum_qbits]
  by_cases h : 12 ≤ hour <;> simp [isPm, h]

/-- p4 from the codes of the date block (R233). -/
theorem bpcP4_eq (codes : List SymCode) : bpcP4 codes = BitVec.ofNat 2 ((codes.map ones).sum % 2) := by
  rw [bpcP4, checksum_qbits]

/-- Bit 1 of p3 is the PM flag, whatever the checksum (R229). -/
theorem bpcP3_div_two (codes : List SymCode) (hour : Nat) :
    (bpcP3 codes hour).toNat / 2 = if 12 ≤ hour then 1 else 0 := by
  rw [bpcP3_eq, BitVec.toNat_ofNat]
  split <;> omega

/-! ### The slots of R235 -/

/-- The slots of a quaternary field, its most significant digit first (R222). -/
theorem quatW_succ_digit4 (w v : Nat) : quatW (w + 1) v = digit4 v w :: quatW w v := quatW_succ w v

theorem bpcTimeSlots_eq_map_bpcData (ts : TimeSample) : bpcTimeSlots ts = (List.range 9).map (bpcData ts) := by
  simp only [bpcTimeSlots, quatW_succ_digit4, quatW_zero, List.cons_append, List.nil_append]
  rfl

theorem bpcDateSlots_eq_map_bpcData (ts : TimeSample) :
    bpcDateSlots ts = (List.range 8).map fun k => bpcData ts (10 + k) := by
  simp only [bpcDateSlots, quatW_succ_digit4, quatW_zero, List.cons_append, List.nil_append]
  rfl

theorem bpcP3_eq_bpcSlot (ts : TimeSample) : bpcP3 (bpcTimeSlots ts) ts.hour = bpcSlot ts 9 := by
  rw [bpcP3_eq, bpcTimeSlots_eq_map_bpcData]
  rfl

theorem bpcP4_eq_bpcSlot (ts : TimeSample) : bpcP4 (bpcDateSlots ts) = bpcSlot ts 18 := by
  rw [bpcP4_eq, bpcDateSlots_eq_map_bpcData]
  rfl

/-- The slots of a TimeSample are the content column of R235. -/
theorem bpcSlots_eq_map_bpcSlot (ts : TimeSample) : bpcSlots ts = (List.range 19).map (bpcSlot ts) := by
  rw [bpcSlots, bpcP3_eq_bpcSlot, bpcP4_eq_bpcSlot, bpcTimeSlots_eq_map_bpcData, bpcDateSlots_eq_map_bpcData]
  rfl

/-! ### A committed column -/

/-- Committing the entries of a column leaves its frame (R190, R330). -/
theorem completeOk_commitFrame_map_range (slot : Nat → SymCode) (len : Nat) (std : Standard) (tr : Bool) (s : State) :
    completeOk tr (s.commitFrame ((List.range len).map slot) std) = buildDone std.code len slot tr s := by
  have hentry (i : Nat) : ((List.range len).map slot).getD i 0 = if i < len then slot i else 0 := by
    by_cases hi : i < len <;> simp [hi]
  simp only [State.commitFrame, hentry, List.length_map, List.length_range]
  rfl

/-- The entries of a frame that fits the buffer. -/
theorem slotOf_buildDone_of_le {len : Nat} (hlen : len ≤ 60) (std : BitVec 2) (slot : Nat → SymCode) (tr : Bool)
    (s : State) (i : Nat) : slotOf (buildDone std len slot tr s) i = if i < len then slot i else 0 := by
  by_cases hi : i < 60
  · simp [slotOf, buildDone, hi]
  · rw [slotOf, dif_neg hi, if_neg (by omega)]

end Sys2Proof.FrameBpcFamily
end

section
/-! PROOFS, family 42_frame_bpc: BUILD.BPC in every case, and the laws of its frames (R220, R221, R234 to R236, R241). -/

namespace Sys2Proof.FrameBpcFamily

open Sys2Proof.Machine Sys2Proof.Safety Sys2Proof.StateFamily Sys2Proof.PrimitivesFamily
  Sys2Proof.FrameJjyWwvbFamily

/-! ### BUILD.BPC by the table -/

/-- The index Fail reports, where a field overflows: the first in R234's order. -/
def bpcOverflow (truncEn : Bool) (ts : TimeSample) : Option Nat :=
  if truncEn = false ∧ 28 ≤ ts.hour then some 2
  else if truncEn = false ∧ 64 ≤ ts.minute then some 4
  else if truncEn = false ∧ 16 ≤ ts.weekday then some 7
  else if truncEn = false ∧ 64 ≤ ts.day then some 10
  else if truncEn = false ∧ 16 ≤ ts.month then some 13
  else if truncEn = false ∧ 64 ≤ ts.year % 100 then some 15
  else none

/-- Whether some field overflows (R234). -/
def bpcTruncated (ts : TimeSample) : Bool :=
  decide (28 ≤ ts.hour ∨ 64 ≤ ts.minute ∨ 16 ≤ ts.weekday ∨ 64 ≤ ts.day ∨ 16 ≤ ts.month ∨ 64 ≤ ts.year % 100)

/-- The hour overflows its two digits after the 12-hour conversion (R226, R227). -/
theorem le_hour12_iff (hour : Nat) : 16 ≤ hour12 hour ↔ 28 ≤ hour := by
  unfold hour12
  split <;> omega

/-- The BPC frame builder by R234 and R235: an overflow, or the content column. -/
theorem bpcFrame_eq_elim (truncEn : Bool) (ts : TimeSample) :
    bpcFrame truncEn ts = (bpcOverflow truncEn ts).elim
      (.ok { digits := (List.range 19).map (bpcSlot ts), truncated := bpcTruncated ts })
      fun idx => .error (overflowAt idx) := by
  rw [bpcFrame_eq, bpcSlots_eq_map_bpcSlot, bpcOverflow, bpcTruncated]
  simp only [le_hour12_iff, ← Bool.decide_or, or_assoc]
  split_ifs <;> rfl

theorem bpcPhase_eq_true_iff (second : Nat) :
    bpcPhase second = true ↔ ¬ (second ≠ 0 ∧ second ≠ 20 ∧ second ≠ 40) := by
  simp only [bpcPhase, Bool.or_eq_true, beq_iff_eq]
  omega

/-- What the tables give BUILD.BPC at a phase: a failed BUILD at the overflow Fail reports, or the frame of R235. -/
def bpcBuiltByTable (s : State) : State :=
  (bpcOverflow s.truncEn (timeSample s)).elim
    (buildDone 2 19 (bpcSlot (timeSample s)) (bpcTruncated (timeSample s)) s)
    fun idx => buildFailed 2 (BitVec.ofNat 8 idx) s

theorem completeBuild_bpcFrame (s : State) :
    completeBuild .bpc (bpcFrame s.truncEn (timeSample s)) s = bpcBuiltByTable s := by
  rw [bpcFrame_eq_elim, bpcBuiltByTable]
  cases bpcOverflow s.truncEn (timeSample s) with
  | none => exact completeOk_commitFrame_map_range _ 19 .bpc _ s
  | some idx => rfl

/-- All that BUILD.BPC can do, by the tables (R220, R221). -/
theorem exec_buildBpc_eq (s : State) :
    exec .buildBpc s = .next (if bpcPhase (timeSample s).second then bpcBuiltByTable s else buildFailed 1 0 s) := by
  rw [← completeBuild_bpcFrame]
  rfl

/-- Settles O30: the word stands in R91's table, and the frame builder follows R234 and R235. -/
theorem buildBpcBuildsTable : Obligations.BuildBpcBuildsTable := by
  refine ⟨decode_commandWord .buildBpc, fun s => ?_⟩
  rw [exec_buildBpc_eq, if_congr (bpcPhase_eq_true_iff _) rfl rfl, ite_not, bpcBuiltByTable, bpcOverflow]
  dsimp only
  split_ifs <;> rfl

/-! ### The checksum laws -/

/-- Settles O33: both check symbols count the block before them, and p3 adds the PM flag. -/
theorem bpcChecksumLaws : Obligations.BpcChecksumLaws := by
  intro s t h herr
  obtain ⟨tr, rfl⟩ := built_of_err_eq_zero (std := .bpc) h herr
  have hslot := slotOf_commitFrame (f := bpcSlots (timeSample s)) (by simp) tr .bpc s
  refine ⟨bpc_p3_law hslot, ?_, bpc_p4_law hslot⟩
  rw [builtSlots, hslot, bpcSlots_p3, bpcP3_div_two]
  rfl

/-! ### The thirds of one minute -/

/-- A state at a second of the minute it holds. -/
def atSecond (second : BitVec 8) (s : State) : State := { s with tsTime := { s.tsTime with second := second } }

/-- The TimeSample at a second of its minute. -/
def sampleAt (second : Nat) (ts : TimeSample) : TimeSample := { ts with second := second }

theorem exec_buildBpc_atSecond {second : BitVec 8} (h : bpcPhase second.toNat = true) (s : State) :
    exec .buildBpc (atSecond second s) = .next (bpcBuiltByTable (atSecond second s)) := by
  rw [exec_buildBpc_eq]
  exact congrArg _ (if_pos h)

/-- The overflow policy reads no second: all BUILDs of a minute overflow alike, or all of them commit (R234). -/
theorem bpcBuiltByTable_atSecond_cases (s : State) :
    (∃ idx, ∀ second, bpcBuiltByTable (atSecond second s) = buildFailed 2 idx (atSecond second s))
    ∨ ∃ tr, ∀ second, bpcBuiltByTable (atSecond second s) =
        buildDone 2 19 (bpcSlot (sampleAt second.toNat (timeSample s))) tr (atSecond second s) := by
  have hoverflow (second : BitVec 8) :
      bpcOverflow (atSecond second s).truncEn (timeSample (atSecond second s)) =
        bpcOverflow s.truncEn (timeSample s) := rfl
  simp only [bpcBuiltByTable, hoverflow]
  cases bpcOverflow s.truncEn (timeSample s) with
  | some idx => exact .inl ⟨BitVec.ofNat 8 idx, fun _ => rfl⟩
  | none => exact .inr ⟨bpcTruncated (timeSample s), fun _ => rfl⟩

/-- Only p1 of the data symbols reads the second (R223). -/
theorem bpcData_sampleAt {k : Nat} (hk : k ≠ 0) (second : Nat) (ts : TimeSample) :
    bpcData (sampleAt second ts) k = bpcData ts k := by
  unfold bpcData
  split
  · exact absurd rfl hk
  all_goals rfl

/-- Only p1 and p3 of all symbols read the second (R223, R229). -/
theorem bpcSlot_sampleAt {k : Nat} (h0 : k ≠ 0) (h9 : k ≠ 9) (second : Nat) (ts : TimeSample) :
    bpcSlot (sampleAt second ts) k = bpcSlot ts k := by
  have hp4 : onesFrom (bpcData (sampleAt second ts)) 10 8 = onesFrom (bpcData ts) 10 8 := rfl
  rw [bpcSlot, bpcSlot, if_neg h9, if_neg h9, hp4, bpcData_sampleAt h0]

/-- p1 is the third of the minute (R223). -/
theorem bpcSlot_p1_sampleAt (second : Nat) (ts : TimeSample) :
    bpcSlot (sampleAt second ts) 0 = BitVec.ofNat 2 (second / 20) := rfl

/-- p3 reads the second through the 1 bits of p1 alone; the symbols 1..8 read none (R229). -/
theorem bpcSlot_p3_sampleAt (second : Nat) (ts : TimeSample) :
    bpcSlot (sampleAt second ts) 9 =
      BitVec.ofNat 2 ((ones (BitVec.ofNat 2 (second / 20)) + onesFrom (bpcData ts) 1 8) % 2
        + if 12 ≤ ts.hour then 2 else 0) := rfl

theorem bpcSlot_p3_mod_two (second : Nat) (ts : TimeSample) :
    (bpcSlot (sampleAt second ts) 9).toNat % 2 =
      (ones (BitVec.ofNat 2 (second / 20)) + onesFrom (bpcData ts) 1 8) % 2 := by
  rw [bpcSlot_p3_sampleAt, BitVec.toNat_ofNat]
  split <;> omega

theorem bpcSlot_p3_div_two (second : Nat) (ts : TimeSample) :
    (bpcSlot (sampleAt second ts) 9).toNat / 2 = if 12 ≤ ts.hour then 1 else 0 := by
  rw [← bpcP3_eq_bpcSlot, bpcP3_div_two]
  rfl

/-- p1 at the three phases: no 1 bit at second 0, one at 20 and one at 40 (R223). -/
theorem p1_of_phase : BitVec.ofNat 2 ((0 : BitVec 8).toNat / 20) = 0 ∧ BitVec.ofNat 2 ((20 : BitVec 8).toNat / 20) = 1
    ∧ BitVec.ofNat 2 ((40 : BitVec 8).toNat / 20) = 2 := by decide

/-- Settles O34: the second enters p1, and through the 1 bits of p1 the checksum in p3. -/
theorem bpcThirdsOfOneMinute : Obligations.BpcThirdsOfOneMinute := by
  intro s a b c ha hb hc herr
  obtain rfl := Host.Outcome.next.inj (ha.symm.trans (exec_buildBpc_atSecond (second := 0) rfl s))
  obtain rfl := Host.Outcome.next.inj (hb.symm.trans (exec_buildBpc_atSecond (second := 20) rfl s))
  obtain rfl := Host.Outcome.next.inj (hc.symm.trans (exec_buildBpc_atSecond (second := 40) rfl s))
  obtain ⟨idx, hfail⟩ | ⟨tr, hdone⟩ := bpcBuiltByTable_atSecond_cases s
  · rw [hfail] at herr
    exact absurd herr (by simp [buildFailed])
  obtain ⟨h0, h20, h40⟩ := p1_of_phase
  have hp1 : 0 < 19 := by decide
  have hp3 : 9 < 19 := by decide
  simp only [hdone, slotOf_buildDone_of_le (show 19 ≤ 60 by decide), if_pos hp1, if_pos hp3, bpcSlot_p1_sampleAt]
  refine ⟨rfl, rfl, fun k hk0 hk9 => ?others, h0, h20, h40, ?p3, ?p3_checksum, ?p3_pm⟩
  case others => simp only [bpcSlot_sampleAt hk0 hk9, and_self]
  case p3 =>
    rw [bpcSlot_p3_sampleAt, bpcSlot_p3_sampleAt, h20, h40]
    rfl
  case p3_checksum =>
    rw [bpcSlot_p3_mod_two, bpcSlot_p3_mod_two, h0, h20, show ones 0 = 0 from rfl, show ones 1 = 1 from rfl]
    omega
  case p3_pm => rw [bpcSlot_p3_div_two, bpcSlot_p3_div_two]

end Sys2Proof.FrameBpcFamily
end

section
/-! PROOFS, family 43_symbol_timing: the pulse tables and the MAP commands (R260 to R267). -/

namespace Sys2Proof.SymbolTimingFamily

open Sys2Proof.Machine Sys2Proof.Safety Sys2Proof.StateFamily Sys2Proof.PrimitivesFamily

/-! ### The pulse tables -/

/-- The machine's profiles are R261 to R263 on all 16 pairs of codes: there is a profile exactly where the table has a
word, and it is that word's. -/
theorem ofCode_bind_pulse (fstd : BitVec 2) (c : SymCode) :
    (Standard.ofCode fstd).bind (pulse · c) =
      if pulseTable fstd c = 0 then none else some (.ofWord (pulseTable fstd c)) := by
  decide +revert

/-- A standard's profile of a symbol is that of the table's word. -/
theorem pulse_eq_ofWord {std : Standard} {c : SymCode} {p : PulseReg} (h : pulse std c = some p) :
    p = .ofWord (pulseTable std.code c) := by
  have hrow := ofCode_bind_pulse std.code c
  rw [ofCode_code, Option.bind_some, h, if_neg (pulse_eq_table std c p h).1] at hrow
  exact Option.some.inj hrow

/-- PULSE holds every word of the table unchanged (R33). -/
theorem toWord_ofWord_pulseTable (fstd : BitVec 2) (c : SymCode) :
    (PulseReg.ofWord (pulseTable fstd c)).toWord = pulseTable fstd c := by
  decide +revert

/-! ### MAP -/

/-- All that the MAP of a standard can do: refuse a code that is no symbol, or set PULSE to the table's word. -/
theorem exec_mapOf_eq (std : Standard) (s : State) :
    exec (mapOf std) s = .next (
      if std.symbolCount ≤ s.argN.toNat then s.setStatus (errorStatus illegalCommand)
      else (s.setPulse (.ofWord (pulseTable std.code (BitVec.ofNat 2 s.argN.toNat)))).setStatus
        (successStatus false)) := by
  have hexec : exec (mapOf std) s = .next (mapSymbol std s) := by cases std <;> rfl
  obtain ⟨hrefused, hmap⟩ | ⟨p, hsymbol, hp, hmap⟩ := mapSymbol_cases std s
  · rw [hexec, hmap, if_pos hrefused]
  · rw [hexec, hmap, if_neg (Nat.not_le.2 hsymbol), pulse_eq_ofWord hp]

/-- The rows of R261, by N. -/
theorem pulseTable_jjy {n : BitVec 16} (h : ¬ 2 < n.toNat) :
    pulseTable Standard.jjy.code (BitVec.ofNat 2 n.toNat) =
      if n = 0 then 0x00001320 else if n = 1 then 0x000011F4 else 0x000010C8 := by
  obtain rfl | rfl | rfl : n = 0 ∨ n = 1 ∨ n = 2 := by bv_omega
  all_goals rfl

/-- The rows of R262, by N. -/
theorem pulseTable_wwvb {n : BitVec 16} (h : ¬ 2 < n.toNat) :
    pulseTable Standard.wwvb.code (BitVec.ofNat 2 n.toNat) =
      if n = 0 then 0x000020C8 else if n = 1 then 0x000021F4 else 0x00002320 := by
  obtain rfl | rfl | rfl : n = 0 ∨ n = 1 ∨ n = 2 := by bv_omega
  all_goals rfl

/-- The rows of R263, by N. -/
theorem pulseTable_bpc {n : BitVec 16} (h : ¬ 3 < n.toNat) :
    pulseTable Standard.bpc.code (BitVec.ofNat 2 n.toNat) =
      if n = 0 then 0x00002064 else if n = 1 then 0x000020C8 else if n = 2 then 0x0000212C else 0x00002190 := by
  obtain rfl | rfl | rfl | rfl : n = 0 ∨ n = 1 ∨ n = 2 ∨ n = 3 := by bv_omega
  all_goals rfl

/-- A MAP with its limit and its profile written out: the limit is the standard's, and the profile is the table's word
for every N within it. -/
theorem exec_mapOf_of_rows {std : Standard} {s : State} {limit : Nat} {row : Word}
    (hlimit : std.symbolCount = limit + 1)
    (hrow : ¬ limit < s.argN.toNat → pulseTable std.code (BitVec.ofNat 2 s.argN.toNat) = row) :
    exec (mapOf std) s = .next (
      if limit < s.argN.toNat then { s with status := { err := 3, trunc := false, errIndex := 0 } }
      else { s with pulse := .ofWord row, status := { err := 0, trunc := false, errIndex := 0 } }) := by
  rw [exec_mapOf_eq, hlimit]
  by_cases hn : limit < s.argN.toNat
  · rw [if_pos hn, if_pos (Nat.succ_le_of_lt hn)]
    rfl
  · rw [if_neg hn, if_neg (mt Nat.lt_of_succ_le hn), hrow hn]
    rfl

/-- Settles O39: the word stands in R91's table, and the symbols below 3 have R261's profiles. -/
theorem mapJjyProfile : Obligations.MapJjyProfile :=
  ⟨decode_commandWord .mapJjy, fun _ => exec_mapOf_of_rows (std := .jjy) rfl pulseTable_jjy⟩

/-- Settles O40: the word stands in R91's table, and the symbols below 3 have R262's profiles. -/
theorem mapWwvbProfile : Obligations.MapWwvbProfile :=
  ⟨decode_commandWord .mapWwvb, fun _ => exec_mapOf_of_rows (std := .wwvb) rfl pulseTable_wwvb⟩

/-- Settles O41: the word stands in R91's table, and the symbols below 4 have R263's profiles. -/
theorem mapBpcProfile : Obligations.MapBpcProfile :=
  ⟨decode_commandWord .mapBpc, fun _ => exec_mapOf_of_rows (std := .bpc) rfl pulseTable_bpc⟩

end Sys2Proof.SymbolTimingFamily
end

section
/-! PROOFS, family 43_symbol_timing: the frame read port, POP and REWIND (R270 to R275). -/

namespace Sys2Proof.SymbolTimingFamily

open Sys2Proof.Machine Sys2Proof.Safety Sys2Proof.StateFamily Sys2Proof.PrimitivesFamily

/-! ### One POP -/

/-- POP with no frame or no symbol left writes STATUS alone (R271). -/
theorem exec_pop_of_spent {s : State} (h : frameSpent s = true) :
    exec .pop s = .next (s.setStatus (errorStatus frameExhausted)) :=
  congrArg Host.Outcome.next (if_pos h)

/-- POP with a symbol left delivers it (R270). -/
theorem exec_pop_of_left {s : State} (h : frameSpent s = false) : exec .pop s = .next (deliverSymbol s) :=
  congrArg Host.Outcome.next (if_neg (by simp [h]))

/-- Where the table has a word for FSTD and the symbol, POP delivers its profile, in every state (R270). -/
theorem framePulse_of_table {s : State} {c : SymCode} (h : pulseTable s.frameInfo.fstd c ≠ 0) :
    framePulse s c = .ofWord (pulseTable s.frameInfo.fstd c) := by
  rw [framePulse, ofCode_bind_pulse, if_neg h]

/-- The symbol a POP of a legal state delivers: the frame's entry at RD_PTR, for which the table has a word. -/
theorem nextSymbol_of_legal {s : State} (h : Legal s) (hleft : frameSpent s = false) :
    nextSymbol s = slotOf s s.frameInfo.rdPtr.toNat ∧ pulseTable s.frameInfo.fstd (nextSymbol s) ≠ 0 := by
  obtain ⟨hv, hlt⟩ := (frameSpent_eq_false_iff s).1 hleft
  obtain ⟨std, p, hstd, hp, -⟩ := framePulse_nextSymbol h.info h.frame hv hlt
  refine ⟨nextSymbol_eq_slotOf (Nat.lt_of_lt_of_le hlt (len_le_of_legal h.info)), ?_⟩
  rw [hstd]
  exact (pulse_eq_table std _ p hp).1

/-- All that a delivery from a legal state does: the frame's entry and the table's word, with no free value. -/
theorem deliverSymbol_of_legal {s : State} (h : Legal s) (hleft : frameSpent s = false) :
    deliverSymbol s =
      { s with
        symOut :=
          { sym := slotOf s s.frameInfo.rdPtr.toNat, index := s.frameInfo.rdPtr, std := s.frameInfo.fstd }
        pulse := .ofWord (pulseTable s.frameInfo.fstd (slotOf s s.frameInfo.rdPtr.toNat))
        frameInfo := { s.frameInfo with rdPtr := s.frameInfo.rdPtr + 1 }
        status := { err := 0, trunc := false, errIndex := 0 } } := by
  obtain ⟨hslot, hword⟩ := nextSymbol_of_legal h hleft
  rw [deliverSymbol_eq, framePulse_of_table hword, hslot]

/-- Settles O42: POP's test, and a delivery from a legal state. -/
theorem popDeliversNextSymbol : Obligations.PopDeliversNextSymbol := by
  refine ⟨decode_commandWord .pop, fun s h => ⟨?answer, fun hv hlt => ⟨?profile, rdPtr_succ_toNat hlt⟩⟩⟩
  case answer =>
    by_cases hspent : frameSpent s = true
    · rw [exec_pop_of_spent hspent, if_pos ((frameSpent_iff s).1 hspent)]
      rfl
    · rw [exec_pop_of_left (by simpa using hspent), deliverSymbol_of_legal h (by simpa using hspent),
        if_neg (mt (frameSpent_iff s).2 hspent)]
  case profile =>
    obtain ⟨hslot, hword⟩ := nextSymbol_of_legal h ((frameSpent_eq_false_iff s).2 ⟨hv, hlt⟩)
    rwa [hslot] at hword

/-- Settles O44: a delivery in any state, with the buffer's entry and the table's word where there are such. -/
theorem popCompletesInEveryState : Obligations.PopCompletesInEveryState := fun s hv hlt =>
  ⟨nextSymbol s, framePulse s (nextSymbol s), exec_pop_of_left ((frameSpent_eq_false_iff s).2 ⟨hv, hlt⟩),
    nextSymbol_eq_slotOf, framePulse_of_table⟩

/-! ### Repeated commands -/

theorem execRepeat_succ_of_exec {i : Instr} {s t : State} (h : exec i s = .next t) (k : Nat) :
    execRepeat i (k + 1) s = execRepeat i k t := by
  rw [execRepeat, h]

/-- One more command after k of them runs on the state they leave. -/
theorem execRepeat_succ {i : Instr} {k : Nat} {s t : State} (h : execRepeat i k s = .next t) :
    execRepeat i (k + 1) s = exec i t := by
  induction k generalizing s with
  | zero =>
    obtain rfl : s = t := Host.Outcome.next.inj h
    obtain ⟨u, hu⟩ := exec_next i s
    rw [execRepeat_succ_of_exec hu, hu, execRepeat]
  | succ k ih =>
    obtain ⟨u, hu⟩ := exec_next i s
    rw [execRepeat_succ_of_exec hu] at h ⊢
    exact ih h

/-! ### Delivery of a whole frame -/

/-- What k POPs from the start of a legal state's frame leave: the same frame with RD_PTR at k. -/
structure AfterPops (s : State) (k : Nat) (t : State) : Prop where
  legal : Legal t
  frameInfo : t.frameInfo = { s.frameInfo with rdPtr := BitVec.ofNat 8 k }
  frame : t.frame = s.frame

theorem afterPops_zero {s : State} (h : Legal s) (h0 : s.frameInfo.rdPtr = 0) : AfterPops s 0 s where
  legal := h
  frameInfo := by
    change s.frameInfo = { s.frameInfo with rdPtr := 0 }
    rw [← h0]
  frame := rfl

/-- RD_PTR after as many POPs as LEN allows has not wrapped. -/
theorem afterPops_rdPtr {s t : State} {k : Nat} (h : AfterPops s k t) (hk : k ≤ s.frameInfo.len.toNat) :
    t.frameInfo.rdPtr.toNat = k := by
  rw [h.frameInfo, BitVec.toNat_ofNat]
  exact Nat.mod_eq_of_lt (Nat.lt_of_le_of_lt hk s.frameInfo.len.isLt)

/-- After fewer than LEN POPs a symbol is left. -/
theorem afterPops_left {s t : State} {k : Nat} (h : AfterPops s k t) (hv : s.frameInfo.valid = true)
    (hk : k < s.frameInfo.len.toNat) : frameSpent t = false := by
  rw [frameSpent_eq_false_iff, afterPops_rdPtr h (Nat.le_of_lt hk), h.frameInfo]
  exact ⟨hv, hk⟩

/-- After LEN POPs no symbol is left. -/
theorem afterPops_spent {s t : State} (h : AfterPops s s.frameInfo.len.toNat t) : frameSpent t = true := by
  rw [frameSpent_iff, afterPops_rdPtr h (Nat.le_refl _), h.frameInfo]
  exact .inr (Nat.le_refl _)

/-- A delivery advances RD_PTR from k to k + 1. -/
theorem afterPops_succ {s t : State} {k : Nat} (h : AfterPops s k t) (hleft : frameSpent t = false) :
    AfterPops s (k + 1) (deliverSymbol t) where
  legal := legal_of_popped h.legal hleft
  frameInfo := by
    rw [deliverSymbol_eq]
    simp [h.frameInfo, BitVec.ofNat_add]
  frame := h.frame

/-- Up to LEN POPs from the start of a frame all complete, each advancing RD_PTR by 1. -/
theorem exists_afterPops {s : State} (h : Legal s) (hv : s.frameInfo.valid = true) (h0 : s.frameInfo.rdPtr = 0)
    {k : Nat} (hk : k ≤ s.frameInfo.len.toNat) : ∃ t, execRepeat .pop k s = .next t ∧ AfterPops s k t := by
  induction k with
  | zero => exact ⟨s, rfl, afterPops_zero h h0⟩
  | succ k ih =>
    obtain ⟨t, hrun, ht⟩ := ih (Nat.le_of_succ_le hk)
    have hleft := afterPops_left ht hv hk
    exact ⟨deliverSymbol t, by rw [execRepeat_succ hrun, exec_pop_of_left hleft], afterPops_succ ht hleft⟩

/-- Settles O45: the POP after k of them delivers entry k, and the POP after LEN of them finds RD_PTR at LEN. -/
theorem popsDeliverFrameInOrder : Obligations.PopsDeliverFrameInOrder := by
  intro s h hv h0
  refine ⟨fun k hk => ?delivered, ?exhausted⟩
  case delivered =>
    obtain ⟨t, hrun, ht⟩ := exists_afterPops h hv h0 (Nat.le_of_lt hk)
    have hleft := afterPops_left ht hv hk
    have hslot : slotOf t t.frameInfo.rdPtr.toNat = slotOf s k := by
      rw [afterPops_rdPtr ht (Nat.le_of_lt hk), slotOf, slotOf, ht.frame]
    refine ⟨deliverSymbol t, by rw [execRepeat_succ hrun, exec_pop_of_left hleft], rfl, ?_, ?_, ht.frame⟩
    · rw [deliverSymbol_of_legal ht.legal hleft, hslot, ht.frameInfo]
    · rw [deliverSymbol_of_legal ht.legal hleft, hslot, ht.frameInfo]
      exact toWord_ofWord_pulseTable _ _
  case exhausted =>
    obtain ⟨t, hrun, ht⟩ := exists_afterPops h hv h0 (Nat.le_refl _)
    refine ⟨t.setStatus (errorStatus frameExhausted),
      by rw [execRepeat_succ hrun, exec_pop_of_spent (afterPops_spent ht)], rfl, ?_⟩
    rw [State.setStatus_frameInfo, ht.frameInfo, BitVec.ofNat_toNat, BitVec.setWidth_eq]

/-! ### REWIND -/

/-- Settles O46: REWIND's one equation, and R31's rule for a machine without a frame. -/
theorem rewindRestartsDelivery : Obligations.RewindRestartsDelivery :=
  ⟨decode_commandWord .rewind, fun _ => rfl, fun _ h hv => (h.none_held hv).2⟩

end Sys2Proof.SymbolTimingFamily
end

section
/-! PROOFS, family 44_control: a command as one step of the block, NOP and SOFT_RESET (R300, R305, R306). -/

namespace Sys2Proof.ControlFamily

open Sys2Proof.Machine Sys2Proof.Safety Sys2Proof.StateFamily Sys2Proof.MemoryFamily Sys2Proof.EncodingFamily
open Sys2Proof.PrimitivesFamily

/-! ### A command as one step -/

theorem memWrite_cmd (v : Word) (s : State) : memWrite 0x000 4 v s = acceptCommand (runCommand v s) := by
  rw [memWrite, accessReg_cmd]

/-- A step that serves a write to CMD runs the word and accepts it once it has completed (R64, R300). -/
theorem step_of_cmdWrite {s : State} {rest : List HostEvent} {v : Word}
    (h : s.pending = .write 0x000 4 v :: rest) :
    step s = acceptCommand (runCommand v { s with pending := rest }) := by
  rw [step_of_pending h, serve, memWrite_cmd]

theorem runCommand_of_decode_ok {v : Word} {i : Instr} (h : decode v = .ok i) (s : State) :
    runCommand v s = exec i s := by
  rw [runCommand, h]

theorem runCommand_of_decode_error {v : Word} {e : DecodeError} (h : decode v = .error e) (s : State) :
    runCommand v s = .next (s.setStatus (errorStatus illegalCommand)) := by
  rw [runCommand, h]
  rfl

/-- Settles O7: the step runs the word, and the decoder says whether that is a command or ILLEGAL_COMMAND. -/
theorem stepRunsDecodedCommand : Obligations.StepRunsDecodedCommand := by
  intro s rest v
  constructor
  · intro i hdecode
    rw [step_of_cmdWrite rfl, runCommand_of_decode_ok hdecode]
    rfl
  · intro e hdecode
    rw [step_of_cmdWrite rfl, runCommand_of_decode_error hdecode]
    rfl

/-! ### NOP -/

theorem exec_nop (s : State) : exec .nop s = .next s := rfl

/-- Settles O19: NOP's row of R91, the three words that carry NOP's OP under another standard, and NOP's one equation. -/
theorem nopChangesNothing : Obligations.NopChangesNothing := by
  refine ⟨decode_commandWord .nop, fun v hv => ?_, exec_nop⟩
  obtain ⟨-, -, hstray, -⟩ := illegalWordsAreRejectedByName v
  have hrejected : decode v = .error .strayStandard := by
    simp only [List.mem_cons, List.not_mem_nil, or_false] at hv
    obtain rfl | rfl | rfl := hv
    all_goals exact hstray (by decide) (by decide) (by decide) (by decide)
  rw [hrejected]
  rfl

/-! ### SOFT_RESET and the reset input -/

theorem exec_softReset (s : State) : exec .softReset s = .next s.resetRegs := rfl

/-- A step that serves the reset input resets the registers and answers nothing (R360). -/
theorem step_of_reset {s : State} {rest : List HostEvent} (h : s.pending = .reset :: rest) :
    step s = .next { s.resetRegs with pending := rest, response := .none } := by
  rw [step_of_pending h]
  rfl

/-- No register keeps anything of the state before a reset (R40). -/
theorem registerValue_resetRegs (s : State) (r : Reg) : registerValue s.resetRegs r = 0 :=
  calc registerValue s.resetRegs r
      = registerValue State.reset r := by cases r <;> rfl
    _ = 0 := resetStateIsZero r

/-- Settles O20: SOFT_RESET and the reset input write the same registers, which all read 0. -/
theorem softResetIsReset : Obligations.SoftResetIsReset := by
  refine ⟨decode_commandWord .softReset, fun s rest => ?_⟩
  exact ⟨s.resetRegs, exec_softReset s, registerValue_resetRegs s, s.resetRegs_pending, s.resetRegs_response,
    _, step_of_reset rfl, rfl⟩

end Sys2Proof.ControlFamily
end

section
/-! PROOFS, family 60_exceptions: what an error writes and what it discards, and the step that serves nothing (R324, R331,
R345, R388). -/

namespace Sys2Proof.ExceptionsFamily

open Sys2Proof.Machine Sys2Proof.Safety Sys2Proof.StateFamily Sys2Proof.MemoryFamily
open Sys2Proof.SymbolTimingFamily Sys2Proof.ControlFamily

/-! ### Errors -/

/-- An error of a BUILD in the words of the claims: the state R331 leaves, with the error's code and index. -/
theorem clearFrame_errorStatus_eq_buildFailed (e : CmdError) (s : State) :
    (s.setStatus (errorStatus e)).clearFrame = buildFailed e.code.code (BitVec.ofNat 8 e.index) s := rfl

/-- All that a command's effect can be where it reports an error: STATUS alone with ERR_INDEX 0, or for a BUILD the
discarded frame as well (R331). NOP is out, as it reports nothing of its own. -/
theorem effect_error_cases {i : Instr} {s t : State} (h : Effect i s t) (hi : i ≠ .nop) (herr : t.status.err ≠ 0) :
    ∃ e, (isBuild i = false ∧ e.index = 0 ∧ t = s.setStatus (errorStatus e))
      ∨ (isBuild i = true ∧ t = (s.setStatus (errorStatus e)).clearFrame) := by
  cases h with
  | failed e _ hbuild _ _ _ _ hindex => exact ⟨e, .inl ⟨hbuild, hindex, rfl⟩⟩
  | buildFailed e _ hbuild => exact ⟨e, .inr ⟨hbuild, rfl⟩⟩
  | nop => exact absurd rfl hi
  | softReset | result | built | mapped | popped | rewound => exact absurd rfl herr

/-- Settles O49: the two kinds of error a command reports, and the illegal word, which is no command. -/
theorem errorsAreAllOrNothing : Obligations.ErrorsAreAllOrNothing := by
  refine ⟨fun i s t hi h herr => ?command, fun v e s hdecode => runCommand_of_decode_error hdecode s⟩
  case command =>
    obtain ⟨e, ⟨hbuild, hindex, rfl⟩ | ⟨hbuild, rfl⟩⟩ := effect_error_cases (exec_effect h) hi herr
    · rw [if_neg (by simp [hbuild]), errorStatus, hindex]
      rfl
    · rw [if_pos hbuild, clearFrame_errorStatus_eq_buildFailed]
      rfl

/-! ### A POP with nothing to deliver -/

/-- Settles O43: the premise is POP's own test. -/
theorem popExhaustedChangesStatusOnly : Obligations.PopExhaustedChangesStatusOnly :=
  fun s h => exec_pop_of_spent ((frameSpent_iff s).2 h)

/-- Settles O38: a BUILD that reports an error has discarded the frame, so that VALID is 0. -/
theorem failedBuildLeavesNothingToPop : Obligations.FailedBuildLeavesNothingToPop := by
  intro i s t hi h herr
  have hinvalid : t.frameInfo.valid = false := by
    obtain ⟨e, ⟨hbuild, -⟩ | ⟨-, rfl⟩⟩ := effect_error_cases (exec_effect h) (ne_nop_of_isBuild hi) herr
    · exact absurd hi (by simp [hbuild])
    · rfl
  exact popExhaustedChangesStatusOnly t (.inl hinvalid)

/-! ### The idle step -/

/-- Settles O18: no event is pending in the state. -/
theorem idleStepChangesNothing : Obligations.IdleStepChangesNothing := fun _ => step_of_idle rfl

end Sys2Proof.ExceptionsFamily
end

section
/-! PROOFS, family 70_reset_and_hazards: the reset input, in any state and after power-up (R360, R361). -/

namespace Sys2Proof.ResetFamily

open Sys2Proof.Machine Sys2Proof.Safety Sys2Proof.StateFamily Sys2Proof.ControlFamily

/-- Settles O11: the step of the reset input leaves the registers that a reset writes, which all read 0. -/
theorem resetInputZeroesRegisters : Obligations.ResetInputZeroesRegisters := by
  intro s rest
  have hzero (r : Reg) : registerValue { s.resetRegs with pending := rest, response := .none } r = 0 :=
    calc registerValue { s.resetRegs with pending := rest, response := .none } r
        = registerValue { s.resetRegs with pending := rest } r := registerValue_respond .none _ r
      _ = registerValue s.resetRegs r := registerValue_pending rest _ r
      _ = 0 := registerValue_resetRegs s r
  exact ⟨_, step_of_reset rfl, hzero, rfl, rfl⟩

/-- Settles O12: the step of the reset input in the power-up state, where a reset has overwritten every register. -/
theorem firstResetEndsPowerUp : Obligations.FirstResetEndsPowerUp := by
  intro rest
  calc step (State.powerUp (.reset :: rest))
      = .next { (State.powerUp (.reset :: rest)).resetRegs with pending := rest, response := .none } :=
        step_of_reset rfl
    _ = .next { State.reset with pending := rest } := rfl

end Sys2Proof.ResetFamily
end
